-- ==== Sys2Proof/Word.lean ====
section
/-! DEFINITION. The two unsigned word types of the machine (`u8` and `u16` of R10, 00_scope.md).
Arithmetic on them wraps modulo 256 and modulo 65536, as R11 says of every result in the machine. -/

namespace Sys2Proof

/-- `u8` (R10). -/
abbrev Byte := BitVec 8

/-- `u16` (R10). -/
abbrev Word := BitVec 16

end Sys2Proof
end

