-- ==== Sys2Proof/Config.lean ====
section
/-! DEFINITION. What is fixed for the life of the machine: the addresses and numbers the source fixes
(R7, 00_scope.md) and the two open reset parameters of R8 for which the model names a value.
The vectors and the cycle costs stand in Machine/Params.lean. -/

namespace Sys2Proof.Config

/-- The divider register DIV (R7, R43). -/
def divAddr : Word := 0xFF04#16

/-- The interrupt-flag register IF (R7, R44). -/
def ifAddr : Word := 0xFF0F#16

/-- The interrupt-enable register IE (R7, R45). -/
def ieAddr : Word := 0xFFFF#16

/-- The opcode byte that selects the second table (R7, R94). -/
def cbByte : Byte := 0xCB#8

/-- `IME_RESET` (R8, R47, D13): open in the spec.
DESIGN CHOICE (log 1): the spec's simulation default. `State.resetWith` takes either value. -/
def imeReset : Bool := false

/-- What a memory byte that nothing has written reads as: `MEM_INIT` (R8, R251) is open in the spec.
DESIGN CHOICE (log 2), unsafe: 0x00. -/
def unlistedByte : Byte := 0x00#8

end Sys2Proof.Config
end

