-- ==== Sys2Proof/Machine/Bits.lean ====
section
/-! DEFINITION. The bit-field, extension and byte-order helpers of the notation (R9, R12, 00_scope.md). -/

namespace Sys2Proof.Machine

/-- `hi8(w) = w[15:8]` (R9). -/
def hi8 (w : Word) : Byte := w.extractLsb' 8 8

/-- `lo8(w) = w[7:0]` (R9). -/
def lo8 (w : Word) : Byte := w.extractLsb' 0 8

/-- `{hi, lo} = hi*256 + lo` (R9). -/
def join16 (hi lo : Byte) : Word := hi ++ lo

/-- `sext_16(b)` (R12): two's-complement sign extension. -/
def sext16 (b : Byte) : Word := b.signExtend 16

/-- `zext_16(b)` (R12). -/
def zext16 (b : Byte) : Word := b.zeroExtend 16

/-- One bit as a byte, for the shifted-in bit of a rotate (R160). -/
def bitByte (b : Bool) : Byte := if b then 1#8 else 0#8

end Sys2Proof.Machine
end

