-- ==== Sys2Proof/Syntax.lean ====
section
/-! DEFINITION. The instructions: operand types (R31, R93, D4 to D10), `Instr` with one constructor per row of
spec/opcode_table.json, and `Form`, the formats of R91 with their fields. -/

namespace Sys2Proof

/-- The operand `r` (D4): REG8 of R93 without code 6. -/
inductive Reg8 where
  | b | c | d | e | h | l | a
  deriving DecidableEq, Repr

/-- The operand `rr` of PUSH and POP: REG16S of R93; also the four pair views (R32). -/
inductive Pair where
  | bc | de | hl | af
  deriving DecidableEq, Repr

/-- The operand `rr` of LD rr,d16, INC rr, DEC rr: REG16 of R93 (D5). -/
inductive Reg16 where
  | bc | de | hl | sp
  deriving DecidableEq, Repr

/-- The pairs that address memory beside HL (D6). -/
inductive IndPair where
  | bc | de
  deriving DecidableEq, Repr

/-- CC of R93 (D10). -/
inductive Cond where
  | nz | z | nc | c
  deriving DecidableEq, Repr

/-- The ALU operations (R93, D7). -/
inductive AluOp where
  | add | sub | cp
  deriving DecidableEq, Repr

/-- The prefixed rotates (R91, D8). -/
inductive RotKind where
  | rlc | rrc | rl | rr
  deriving DecidableEq, Repr

/-- RLA or RRA. -/
inductive Dir where
  | left | right
  deriving DecidableEq, Repr

/-- The formats of R91, each with the fields R91 and R93 give it and its immediate (R95). -/
inductive Form where
  | ldRR (dst src : Reg8)
  | ldRHl (dst : Reg8)
  | ldHlR (src : Reg8)
  | ldRD8 (dst : Reg8) (d8 : Byte)
  | incR (dst : Reg8)
  | decR (dst : Reg8)
  | ldRrD16 (rr : Reg16) (d16 : Word)
  | incRr (rr : Reg16)
  | decRr (rr : Reg16)
  | ldRrA (p : IndPair)
  | ldARr (p : IndPair)
  | rotA (dir : Dir)
  | jr (i8 : Byte)
  | jrCc (cc : Cond) (i8 : Byte)
  | aluR (op : AluOp) (src : Reg8)
  | aluHl (op : AluOp)
  | aluD8 (op : AluOp) (d8 : Byte)
  | pop (p : Pair)
  | push (p : Pair)
  | ret
  | reti
  | call (u16 : Word)
  | prefixCb (op2 : Byte)
  | ldhA8A (a8 : Byte)
  | ldhAA8 (a8 : Byte)
  | ldCA
  | ldAC
  | ldA16A (a16 : Word)
  | ldAA16 (a16 : Word)
  | di
  | ei
  | cbRotR (k : RotKind) (src : Reg8)
  | cbRotHl (k : RotKind)
  | cbBitR (n : Fin 8) (src : Reg8)
  | cbBitHl (n : Fin 8)
  | noEntry (byte : Byte)
  | noEntryCb (byte : Byte)
  deriving DecidableEq, Repr

/-- One constructor per row of spec/opcode_table.json: the rows with an immediate first, then the
others, each in the table's order. `m` before an operand stands
for the memory byte it addresses. A row with no entry (R97) is the named decode failure. -/
inductive Instr where
  | ld_BC_d16 (d16 : Word)
  | ld_B_d8 (d8 : Byte)
  | ld_C_d8 (d8 : Byte)
  | ld_DE_d16 (d16 : Word)
  | ld_D_d8 (d8 : Byte)
  | jr_i8 (i8 : Byte)
  | ld_E_d8 (d8 : Byte)
  | jr_NZ_i8 (i8 : Byte)
  | ld_HL_d16 (d16 : Word)
  | ld_H_d8 (d8 : Byte)
  | jr_Z_i8 (i8 : Byte)
  | ld_L_d8 (d8 : Byte)
  | jr_NC_i8 (i8 : Byte)
  | ld_SP_d16 (d16 : Word)
  | jr_C_i8 (i8 : Byte)
  | ld_A_d8 (d8 : Byte)
  | add_A_d8 (d8 : Byte)
  | prefixCB (op2 : Byte)
  | call_u16 (u16 : Word)
  | sub_d8 (d8 : Byte)
  | ldh_mA8_A (a8 : Byte)
  | ld_mA16_A (a16 : Word)
  | ldh_A_mA8 (a8 : Byte)
  | ld_A_mA16 (a16 : Word)
  | cp_d8 (d8 : Byte)
  | noEntry_00
  | ld_mBC_A
  | inc_BC
  | inc_B
  | dec_B
  | noEntry_07
  | noEntry_08
  | noEntry_09
  | ld_A_mBC
  | dec_BC
  | inc_C
  | dec_C
  | noEntry_0F
  | noEntry_10
  | ld_mDE_A
  | inc_DE
  | inc_D
  | dec_D
  | rla
  | noEntry_19
  | ld_A_mDE
  | dec_DE
  | inc_E
  | dec_E
  | rra
  | noEntry_22
  | inc_HL
  | inc_H
  | dec_H
  | noEntry_27
  | noEntry_29
  | noEntry_2A
  | dec_HL
  | inc_L
  | dec_L
  | noEntry_2F
  | noEntry_32
  | inc_SP
  | noEntry_34
  | noEntry_35
  | noEntry_36
  | noEntry_37
  | noEntry_39
  | noEntry_3A
  | dec_SP
  | inc_A
  | dec_A
  | noEntry_3F
  | ld_B_B
  | ld_B_C
  | ld_B_D
  | ld_B_E
  | ld_B_H
  | ld_B_L
  | ld_B_mHL
  | ld_B_A
  | ld_C_B
  | ld_C_C
  | ld_C_D
  | ld_C_E
  | ld_C_H
  | ld_C_L
  | ld_C_mHL
  | ld_C_A
  | ld_D_B
  | ld_D_C
  | ld_D_D
  | ld_D_E
  | ld_D_H
  | ld_D_L
  | ld_D_mHL
  | ld_D_A
  | ld_E_B
  | ld_E_C
  | ld_E_D
  | ld_E_E
  | ld_E_H
  | ld_E_L
  | ld_E_mHL
  | ld_E_A
  | ld_H_B
  | ld_H_C
  | ld_H_D
  | ld_H_E
  | ld_H_H
  | ld_H_L
  | ld_H_mHL
  | ld_H_A
  | ld_L_B
  | ld_L_C
  | ld_L_D
  | ld_L_E
  | ld_L_H
  | ld_L_L
  | ld_L_mHL
  | ld_L_A
  | ld_mHL_B
  | ld_mHL_C
  | ld_mHL_D
  | ld_mHL_E
  | ld_mHL_H
  | ld_mHL_L
  | noEntry_76
  | ld_mHL_A
  | ld_A_B
  | ld_A_C
  | ld_A_D
  | ld_A_E
  | ld_A_H
  | ld_A_L
  | ld_A_mHL
  | ld_A_A
  | add_A_B
  | add_A_C
  | add_A_D
  | add_A_E
  | add_A_H
  | add_A_L
  | add_A_mHL
  | add_A_A
  | noEntry_88
  | noEntry_89
  | noEntry_8A
  | noEntry_8B
  | noEntry_8C
  | noEntry_8D
  | noEntry_8E
  | noEntry_8F
  | sub_B
  | sub_C
  | sub_D
  | sub_E
  | sub_H
  | sub_L
  | sub_mHL
  | sub_A
  | noEntry_98
  | noEntry_99
  | noEntry_9A
  | noEntry_9B
  | noEntry_9C
  | noEntry_9D
  | noEntry_9E
  | noEntry_9F
  | noEntry_A0
  | noEntry_A1
  | noEntry_A2
  | noEntry_A3
  | noEntry_A4
  | noEntry_A5
  | noEntry_A6
  | noEntry_A7
  | noEntry_A8
  | noEntry_A9
  | noEntry_AA
  | noEntry_AB
  | noEntry_AC
  | noEntry_AD
  | noEntry_AE
  | noEntry_AF
  | noEntry_B0
  | noEntry_B1
  | noEntry_B2
  | noEntry_B3
  | noEntry_B4
  | noEntry_B5
  | noEntry_B6
  | noEntry_B7
  | cp_B
  | cp_C
  | cp_D
  | cp_E
  | cp_H
  | cp_L
  | cp_mHL
  | cp_A
  | noEntry_C0
  | pop_BC
  | noEntry_C2
  | noEntry_C3
  | noEntry_C4
  | push_BC
  | noEntry_C7
  | noEntry_C8
  | ret
  | noEntry_CA
  | noEntry_CC
  | noEntry_CE
  | noEntry_CF
  | noEntry_D0
  | pop_DE
  | noEntry_D2
  | noEntry_D3
  | noEntry_D4
  | push_DE
  | noEntry_D7
  | noEntry_D8
  | reti
  | noEntry_DA
  | noEntry_DB
  | noEntry_DC
  | noEntry_DD
  | noEntry_DE
  | noEntry_DF
  | pop_HL
  | ld_mC_A
  | noEntry_E3
  | noEntry_E4
  | push_HL
  | noEntry_E6
  | noEntry_E7
  | noEntry_E8
  | noEntry_E9
  | noEntry_EB
  | noEntry_EC
  | noEntry_ED
  | noEntry_EE
  | noEntry_EF
  | pop_AF
  | ld_A_mC
  | di
  | noEntry_F4
  | push_AF
  | noEntry_F6
  | noEntry_F7
  | noEntry_F8
  | noEntry_F9
  | ei
  | noEntry_FC
  | noEntry_FD
  | noEntry_FF
  | rlc_B
  | rlc_C
  | rlc_D
  | rlc_E
  | rlc_H
  | rlc_L
  | rlc_mHL
  | rlc_A
  | rrc_B
  | rrc_C
  | rrc_D
  | rrc_E
  | rrc_H
  | rrc_L
  | rrc_mHL
  | rrc_A
  | rl_B
  | rl_C
  | rl_D
  | rl_E
  | rl_H
  | rl_L
  | rl_mHL
  | rl_A
  | rr_B
  | rr_C
  | rr_D
  | rr_E
  | rr_H
  | rr_L
  | rr_mHL
  | rr_A
  | noEntry_CB_20
  | noEntry_CB_21
  | noEntry_CB_22
  | noEntry_CB_23
  | noEntry_CB_24
  | noEntry_CB_25
  | noEntry_CB_26
  | noEntry_CB_27
  | noEntry_CB_28
  | noEntry_CB_29
  | noEntry_CB_2A
  | noEntry_CB_2B
  | noEntry_CB_2C
  | noEntry_CB_2D
  | noEntry_CB_2E
  | noEntry_CB_2F
  | noEntry_CB_30
  | noEntry_CB_31
  | noEntry_CB_32
  | noEntry_CB_33
  | noEntry_CB_34
  | noEntry_CB_35
  | noEntry_CB_36
  | noEntry_CB_37
  | noEntry_CB_38
  | noEntry_CB_39
  | noEntry_CB_3A
  | noEntry_CB_3B
  | noEntry_CB_3C
  | noEntry_CB_3D
  | noEntry_CB_3E
  | noEntry_CB_3F
  | bit_0_B
  | bit_0_C
  | bit_0_D
  | bit_0_E
  | bit_0_H
  | bit_0_L
  | bit_0_mHL
  | bit_0_A
  | bit_1_B
  | bit_1_C
  | bit_1_D
  | bit_1_E
  | bit_1_H
  | bit_1_L
  | bit_1_mHL
  | bit_1_A
  | bit_2_B
  | bit_2_C
  | bit_2_D
  | bit_2_E
  | bit_2_H
  | bit_2_L
  | bit_2_mHL
  | bit_2_A
  | bit_3_B
  | bit_3_C
  | bit_3_D
  | bit_3_E
  | bit_3_H
  | bit_3_L
  | bit_3_mHL
  | bit_3_A
  | bit_4_B
  | bit_4_C
  | bit_4_D
  | bit_4_E
  | bit_4_H
  | bit_4_L
  | bit_4_mHL
  | bit_4_A
  | bit_5_B
  | bit_5_C
  | bit_5_D
  | bit_5_E
  | bit_5_H
  | bit_5_L
  | bit_5_mHL
  | bit_5_A
  | bit_6_B
  | bit_6_C
  | bit_6_D
  | bit_6_E
  | bit_6_H
  | bit_6_L
  | bit_6_mHL
  | bit_6_A
  | bit_7_B
  | bit_7_C
  | bit_7_D
  | bit_7_E
  | bit_7_H
  | bit_7_L
  | bit_7_mHL
  | bit_7_A
  | noEntry_CB_80
  | noEntry_CB_81
  | noEntry_CB_82
  | noEntry_CB_83
  | noEntry_CB_84
  | noEntry_CB_85
  | noEntry_CB_86
  | noEntry_CB_87
  | noEntry_CB_88
  | noEntry_CB_89
  | noEntry_CB_8A
  | noEntry_CB_8B
  | noEntry_CB_8C
  | noEntry_CB_8D
  | noEntry_CB_8E
  | noEntry_CB_8F
  | noEntry_CB_90
  | noEntry_CB_91
  | noEntry_CB_92
  | noEntry_CB_93
  | noEntry_CB_94
  | noEntry_CB_95
  | noEntry_CB_96
  | noEntry_CB_97
  | noEntry_CB_98
  | noEntry_CB_99
  | noEntry_CB_9A
  | noEntry_CB_9B
  | noEntry_CB_9C
  | noEntry_CB_9D
  | noEntry_CB_9E
  | noEntry_CB_9F
  | noEntry_CB_A0
  | noEntry_CB_A1
  | noEntry_CB_A2
  | noEntry_CB_A3
  | noEntry_CB_A4
  | noEntry_CB_A5
  | noEntry_CB_A6
  | noEntry_CB_A7
  | noEntry_CB_A8
  | noEntry_CB_A9
  | noEntry_CB_AA
  | noEntry_CB_AB
  | noEntry_CB_AC
  | noEntry_CB_AD
  | noEntry_CB_AE
  | noEntry_CB_AF
  | noEntry_CB_B0
  | noEntry_CB_B1
  | noEntry_CB_B2
  | noEntry_CB_B3
  | noEntry_CB_B4
  | noEntry_CB_B5
  | noEntry_CB_B6
  | noEntry_CB_B7
  | noEntry_CB_B8
  | noEntry_CB_B9
  | noEntry_CB_BA
  | noEntry_CB_BB
  | noEntry_CB_BC
  | noEntry_CB_BD
  | noEntry_CB_BE
  | noEntry_CB_BF
  | noEntry_CB_C0
  | noEntry_CB_C1
  | noEntry_CB_C2
  | noEntry_CB_C3
  | noEntry_CB_C4
  | noEntry_CB_C5
  | noEntry_CB_C6
  | noEntry_CB_C7
  | noEntry_CB_C8
  | noEntry_CB_C9
  | noEntry_CB_CA
  | noEntry_CB_CB
  | noEntry_CB_CC
  | noEntry_CB_CD
  | noEntry_CB_CE
  | noEntry_CB_CF
  | noEntry_CB_D0
  | noEntry_CB_D1
  | noEntry_CB_D2
  | noEntry_CB_D3
  | noEntry_CB_D4
  | noEntry_CB_D5
  | noEntry_CB_D6
  | noEntry_CB_D7
  | noEntry_CB_D8
  | noEntry_CB_D9
  | noEntry_CB_DA
  | noEntry_CB_DB
  | noEntry_CB_DC
  | noEntry_CB_DD
  | noEntry_CB_DE
  | noEntry_CB_DF
  | noEntry_CB_E0
  | noEntry_CB_E1
  | noEntry_CB_E2
  | noEntry_CB_E3
  | noEntry_CB_E4
  | noEntry_CB_E5
  | noEntry_CB_E6
  | noEntry_CB_E7
  | noEntry_CB_E8
  | noEntry_CB_E9
  | noEntry_CB_EA
  | noEntry_CB_EB
  | noEntry_CB_EC
  | noEntry_CB_ED
  | noEntry_CB_EE
  | noEntry_CB_EF
  | noEntry_CB_F0
  | noEntry_CB_F1
  | noEntry_CB_F2
  | noEntry_CB_F3
  | noEntry_CB_F4
  | noEntry_CB_F5
  | noEntry_CB_F6
  | noEntry_CB_F7
  | noEntry_CB_F8
  | noEntry_CB_F9
  | noEntry_CB_FA
  | noEntry_CB_FB
  | noEntry_CB_FC
  | noEntry_CB_FD
  | noEntry_CB_FE
  | noEntry_CB_FF
  deriving DecidableEq, Repr

end Sys2Proof
end

