-- ==== Sys2Proof/Machine/Form.lean ====
section
/-! DEFINITION. The format and field values of each row (R91, R93, 30_encoding.md): the view of an instruction
that the encoder reads and that the statements use to speak of a family at once. -/

namespace Sys2Proof

def Instr.form : Instr → Form
  | .noEntry_00 => .noEntry 0x00#8
  | .ld_BC_d16 d16 => .ldRrD16 .bc d16
  | .ld_mBC_A => .ldRrA .bc
  | .inc_BC => .incRr .bc
  | .inc_B => .incR .b
  | .dec_B => .decR .b
  | .ld_B_d8 d8 => .ldRD8 .b d8
  | .noEntry_07 => .noEntry 0x07#8
  | .noEntry_08 => .noEntry 0x08#8
  | .noEntry_09 => .noEntry 0x09#8
  | .ld_A_mBC => .ldARr .bc
  | .dec_BC => .decRr .bc
  | .inc_C => .incR .c
  | .dec_C => .decR .c
  | .ld_C_d8 d8 => .ldRD8 .c d8
  | .noEntry_0F => .noEntry 0x0F#8
  | .noEntry_10 => .noEntry 0x10#8
  | .ld_DE_d16 d16 => .ldRrD16 .de d16
  | .ld_mDE_A => .ldRrA .de
  | .inc_DE => .incRr .de
  | .inc_D => .incR .d
  | .dec_D => .decR .d
  | .ld_D_d8 d8 => .ldRD8 .d d8
  | .rla => .rotA .left
  | .jr_i8 i8 => .jr i8
  | .noEntry_19 => .noEntry 0x19#8
  | .ld_A_mDE => .ldARr .de
  | .dec_DE => .decRr .de
  | .inc_E => .incR .e
  | .dec_E => .decR .e
  | .ld_E_d8 d8 => .ldRD8 .e d8
  | .rra => .rotA .right
  | .jr_NZ_i8 i8 => .jrCc .nz i8
  | .ld_HL_d16 d16 => .ldRrD16 .hl d16
  | .noEntry_22 => .noEntry 0x22#8
  | .inc_HL => .incRr .hl
  | .inc_H => .incR .h
  | .dec_H => .decR .h
  | .ld_H_d8 d8 => .ldRD8 .h d8
  | .noEntry_27 => .noEntry 0x27#8
  | .jr_Z_i8 i8 => .jrCc .z i8
  | .noEntry_29 => .noEntry 0x29#8
  | .noEntry_2A => .noEntry 0x2A#8
  | .dec_HL => .decRr .hl
  | .inc_L => .incR .l
  | .dec_L => .decR .l
  | .ld_L_d8 d8 => .ldRD8 .l d8
  | .noEntry_2F => .noEntry 0x2F#8
  | .jr_NC_i8 i8 => .jrCc .nc i8
  | .ld_SP_d16 d16 => .ldRrD16 .sp d16
  | .noEntry_32 => .noEntry 0x32#8
  | .inc_SP => .incRr .sp
  | .noEntry_34 => .noEntry 0x34#8
  | .noEntry_35 => .noEntry 0x35#8
  | .noEntry_36 => .noEntry 0x36#8
  | .noEntry_37 => .noEntry 0x37#8
  | .jr_C_i8 i8 => .jrCc .c i8
  | .noEntry_39 => .noEntry 0x39#8
  | .noEntry_3A => .noEntry 0x3A#8
  | .dec_SP => .decRr .sp
  | .inc_A => .incR .a
  | .dec_A => .decR .a
  | .ld_A_d8 d8 => .ldRD8 .a d8
  | .noEntry_3F => .noEntry 0x3F#8
  | .ld_B_B => .ldRR .b .b
  | .ld_B_C => .ldRR .b .c
  | .ld_B_D => .ldRR .b .d
  | .ld_B_E => .ldRR .b .e
  | .ld_B_H => .ldRR .b .h
  | .ld_B_L => .ldRR .b .l
  | .ld_B_mHL => .ldRHl .b
  | .ld_B_A => .ldRR .b .a
  | .ld_C_B => .ldRR .c .b
  | .ld_C_C => .ldRR .c .c
  | .ld_C_D => .ldRR .c .d
  | .ld_C_E => .ldRR .c .e
  | .ld_C_H => .ldRR .c .h
  | .ld_C_L => .ldRR .c .l
  | .ld_C_mHL => .ldRHl .c
  | .ld_C_A => .ldRR .c .a
  | .ld_D_B => .ldRR .d .b
  | .ld_D_C => .ldRR .d .c
  | .ld_D_D => .ldRR .d .d
  | .ld_D_E => .ldRR .d .e
  | .ld_D_H => .ldRR .d .h
  | .ld_D_L => .ldRR .d .l
  | .ld_D_mHL => .ldRHl .d
  | .ld_D_A => .ldRR .d .a
  | .ld_E_B => .ldRR .e .b
  | .ld_E_C => .ldRR .e .c
  | .ld_E_D => .ldRR .e .d
  | .ld_E_E => .ldRR .e .e
  | .ld_E_H => .ldRR .e .h
  | .ld_E_L => .ldRR .e .l
  | .ld_E_mHL => .ldRHl .e
  | .ld_E_A => .ldRR .e .a
  | .ld_H_B => .ldRR .h .b
  | .ld_H_C => .ldRR .h .c
  | .ld_H_D => .ldRR .h .d
  | .ld_H_E => .ldRR .h .e
  | .ld_H_H => .ldRR .h .h
  | .ld_H_L => .ldRR .h .l
  | .ld_H_mHL => .ldRHl .h
  | .ld_H_A => .ldRR .h .a
  | .ld_L_B => .ldRR .l .b
  | .ld_L_C => .ldRR .l .c
  | .ld_L_D => .ldRR .l .d
  | .ld_L_E => .ldRR .l .e
  | .ld_L_H => .ldRR .l .h
  | .ld_L_L => .ldRR .l .l
  | .ld_L_mHL => .ldRHl .l
  | .ld_L_A => .ldRR .l .a
  | .ld_mHL_B => .ldHlR .b
  | .ld_mHL_C => .ldHlR .c
  | .ld_mHL_D => .ldHlR .d
  | .ld_mHL_E => .ldHlR .e
  | .ld_mHL_H => .ldHlR .h
  | .ld_mHL_L => .ldHlR .l
  | .noEntry_76 => .noEntry 0x76#8
  | .ld_mHL_A => .ldHlR .a
  | .ld_A_B => .ldRR .a .b
  | .ld_A_C => .ldRR .a .c
  | .ld_A_D => .ldRR .a .d
  | .ld_A_E => .ldRR .a .e
  | .ld_A_H => .ldRR .a .h
  | .ld_A_L => .ldRR .a .l
  | .ld_A_mHL => .ldRHl .a
  | .ld_A_A => .ldRR .a .a
  | .add_A_B => .aluR .add .b
  | .add_A_C => .aluR .add .c
  | .add_A_D => .aluR .add .d
  | .add_A_E => .aluR .add .e
  | .add_A_H => .aluR .add .h
  | .add_A_L => .aluR .add .l
  | .add_A_mHL => .aluHl .add
  | .add_A_A => .aluR .add .a
  | .noEntry_88 => .noEntry 0x88#8
  | .noEntry_89 => .noEntry 0x89#8
  | .noEntry_8A => .noEntry 0x8A#8
  | .noEntry_8B => .noEntry 0x8B#8
  | .noEntry_8C => .noEntry 0x8C#8
  | .noEntry_8D => .noEntry 0x8D#8
  | .noEntry_8E => .noEntry 0x8E#8
  | .noEntry_8F => .noEntry 0x8F#8
  | .sub_B => .aluR .sub .b
  | .sub_C => .aluR .sub .c
  | .sub_D => .aluR .sub .d
  | .sub_E => .aluR .sub .e
  | .sub_H => .aluR .sub .h
  | .sub_L => .aluR .sub .l
  | .sub_mHL => .aluHl .sub
  | .sub_A => .aluR .sub .a
  | .noEntry_98 => .noEntry 0x98#8
  | .noEntry_99 => .noEntry 0x99#8
  | .noEntry_9A => .noEntry 0x9A#8
  | .noEntry_9B => .noEntry 0x9B#8
  | .noEntry_9C => .noEntry 0x9C#8
  | .noEntry_9D => .noEntry 0x9D#8
  | .noEntry_9E => .noEntry 0x9E#8
  | .noEntry_9F => .noEntry 0x9F#8
  | .noEntry_A0 => .noEntry 0xA0#8
  | .noEntry_A1 => .noEntry 0xA1#8
  | .noEntry_A2 => .noEntry 0xA2#8
  | .noEntry_A3 => .noEntry 0xA3#8
  | .noEntry_A4 => .noEntry 0xA4#8
  | .noEntry_A5 => .noEntry 0xA5#8
  | .noEntry_A6 => .noEntry 0xA6#8
  | .noEntry_A7 => .noEntry 0xA7#8
  | .noEntry_A8 => .noEntry 0xA8#8
  | .noEntry_A9 => .noEntry 0xA9#8
  | .noEntry_AA => .noEntry 0xAA#8
  | .noEntry_AB => .noEntry 0xAB#8
  | .noEntry_AC => .noEntry 0xAC#8
  | .noEntry_AD => .noEntry 0xAD#8
  | .noEntry_AE => .noEntry 0xAE#8
  | .noEntry_AF => .noEntry 0xAF#8
  | .noEntry_B0 => .noEntry 0xB0#8
  | .noEntry_B1 => .noEntry 0xB1#8
  | .noEntry_B2 => .noEntry 0xB2#8
  | .noEntry_B3 => .noEntry 0xB3#8
  | .noEntry_B4 => .noEntry 0xB4#8
  | .noEntry_B5 => .noEntry 0xB5#8
  | .noEntry_B6 => .noEntry 0xB6#8
  | .noEntry_B7 => .noEntry 0xB7#8
  | .cp_B => .aluR .cp .b
  | .cp_C => .aluR .cp .c
  | .cp_D => .aluR .cp .d
  | .cp_E => .aluR .cp .e
  | .cp_H => .aluR .cp .h
  | .cp_L => .aluR .cp .l
  | .cp_mHL => .aluHl .cp
  | .cp_A => .aluR .cp .a
  | .noEntry_C0 => .noEntry 0xC0#8
  | .pop_BC => .pop .bc
  | .noEntry_C2 => .noEntry 0xC2#8
  | .noEntry_C3 => .noEntry 0xC3#8
  | .noEntry_C4 => .noEntry 0xC4#8
  | .push_BC => .push .bc
  | .add_A_d8 d8 => .aluD8 .add d8
  | .noEntry_C7 => .noEntry 0xC7#8
  | .noEntry_C8 => .noEntry 0xC8#8
  | .ret => .ret
  | .noEntry_CA => .noEntry 0xCA#8
  | .prefixCB op2 => .prefixCb op2
  | .noEntry_CC => .noEntry 0xCC#8
  | .call_u16 u16 => .call u16
  | .noEntry_CE => .noEntry 0xCE#8
  | .noEntry_CF => .noEntry 0xCF#8
  | .noEntry_D0 => .noEntry 0xD0#8
  | .pop_DE => .pop .de
  | .noEntry_D2 => .noEntry 0xD2#8
  | .noEntry_D3 => .noEntry 0xD3#8
  | .noEntry_D4 => .noEntry 0xD4#8
  | .push_DE => .push .de
  | .sub_d8 d8 => .aluD8 .sub d8
  | .noEntry_D7 => .noEntry 0xD7#8
  | .noEntry_D8 => .noEntry 0xD8#8
  | .reti => .reti
  | .noEntry_DA => .noEntry 0xDA#8
  | .noEntry_DB => .noEntry 0xDB#8
  | .noEntry_DC => .noEntry 0xDC#8
  | .noEntry_DD => .noEntry 0xDD#8
  | .noEntry_DE => .noEntry 0xDE#8
  | .noEntry_DF => .noEntry 0xDF#8
  | .ldh_mA8_A a8 => .ldhA8A a8
  | .pop_HL => .pop .hl
  | .ld_mC_A => .ldCA
  | .noEntry_E3 => .noEntry 0xE3#8
  | .noEntry_E4 => .noEntry 0xE4#8
  | .push_HL => .push .hl
  | .noEntry_E6 => .noEntry 0xE6#8
  | .noEntry_E7 => .noEntry 0xE7#8
  | .noEntry_E8 => .noEntry 0xE8#8
  | .noEntry_E9 => .noEntry 0xE9#8
  | .ld_mA16_A a16 => .ldA16A a16
  | .noEntry_EB => .noEntry 0xEB#8
  | .noEntry_EC => .noEntry 0xEC#8
  | .noEntry_ED => .noEntry 0xED#8
  | .noEntry_EE => .noEntry 0xEE#8
  | .noEntry_EF => .noEntry 0xEF#8
  | .ldh_A_mA8 a8 => .ldhAA8 a8
  | .pop_AF => .pop .af
  | .ld_A_mC => .ldAC
  | .di => .di
  | .noEntry_F4 => .noEntry 0xF4#8
  | .push_AF => .push .af
  | .noEntry_F6 => .noEntry 0xF6#8
  | .noEntry_F7 => .noEntry 0xF7#8
  | .noEntry_F8 => .noEntry 0xF8#8
  | .noEntry_F9 => .noEntry 0xF9#8
  | .ld_A_mA16 a16 => .ldAA16 a16
  | .ei => .ei
  | .noEntry_FC => .noEntry 0xFC#8
  | .noEntry_FD => .noEntry 0xFD#8
  | .cp_d8 d8 => .aluD8 .cp d8
  | .noEntry_FF => .noEntry 0xFF#8
  | .rlc_B => .cbRotR .rlc .b
  | .rlc_C => .cbRotR .rlc .c
  | .rlc_D => .cbRotR .rlc .d
  | .rlc_E => .cbRotR .rlc .e
  | .rlc_H => .cbRotR .rlc .h
  | .rlc_L => .cbRotR .rlc .l
  | .rlc_mHL => .cbRotHl .rlc
  | .rlc_A => .cbRotR .rlc .a
  | .rrc_B => .cbRotR .rrc .b
  | .rrc_C => .cbRotR .rrc .c
  | .rrc_D => .cbRotR .rrc .d
  | .rrc_E => .cbRotR .rrc .e
  | .rrc_H => .cbRotR .rrc .h
  | .rrc_L => .cbRotR .rrc .l
  | .rrc_mHL => .cbRotHl .rrc
  | .rrc_A => .cbRotR .rrc .a
  | .rl_B => .cbRotR .rl .b
  | .rl_C => .cbRotR .rl .c
  | .rl_D => .cbRotR .rl .d
  | .rl_E => .cbRotR .rl .e
  | .rl_H => .cbRotR .rl .h
  | .rl_L => .cbRotR .rl .l
  | .rl_mHL => .cbRotHl .rl
  | .rl_A => .cbRotR .rl .a
  | .rr_B => .cbRotR .rr .b
  | .rr_C => .cbRotR .rr .c
  | .rr_D => .cbRotR .rr .d
  | .rr_E => .cbRotR .rr .e
  | .rr_H => .cbRotR .rr .h
  | .rr_L => .cbRotR .rr .l
  | .rr_mHL => .cbRotHl .rr
  | .rr_A => .cbRotR .rr .a
  | .noEntry_CB_20 => .noEntryCb 0x20#8
  | .noEntry_CB_21 => .noEntryCb 0x21#8
  | .noEntry_CB_22 => .noEntryCb 0x22#8
  | .noEntry_CB_23 => .noEntryCb 0x23#8
  | .noEntry_CB_24 => .noEntryCb 0x24#8
  | .noEntry_CB_25 => .noEntryCb 0x25#8
  | .noEntry_CB_26 => .noEntryCb 0x26#8
  | .noEntry_CB_27 => .noEntryCb 0x27#8
  | .noEntry_CB_28 => .noEntryCb 0x28#8
  | .noEntry_CB_29 => .noEntryCb 0x29#8
  | .noEntry_CB_2A => .noEntryCb 0x2A#8
  | .noEntry_CB_2B => .noEntryCb 0x2B#8
  | .noEntry_CB_2C => .noEntryCb 0x2C#8
  | .noEntry_CB_2D => .noEntryCb 0x2D#8
  | .noEntry_CB_2E => .noEntryCb 0x2E#8
  | .noEntry_CB_2F => .noEntryCb 0x2F#8
  | .noEntry_CB_30 => .noEntryCb 0x30#8
  | .noEntry_CB_31 => .noEntryCb 0x31#8
  | .noEntry_CB_32 => .noEntryCb 0x32#8
  | .noEntry_CB_33 => .noEntryCb 0x33#8
  | .noEntry_CB_34 => .noEntryCb 0x34#8
  | .noEntry_CB_35 => .noEntryCb 0x35#8
  | .noEntry_CB_36 => .noEntryCb 0x36#8
  | .noEntry_CB_37 => .noEntryCb 0x37#8
  | .noEntry_CB_38 => .noEntryCb 0x38#8
  | .noEntry_CB_39 => .noEntryCb 0x39#8
  | .noEntry_CB_3A => .noEntryCb 0x3A#8
  | .noEntry_CB_3B => .noEntryCb 0x3B#8
  | .noEntry_CB_3C => .noEntryCb 0x3C#8
  | .noEntry_CB_3D => .noEntryCb 0x3D#8
  | .noEntry_CB_3E => .noEntryCb 0x3E#8
  | .noEntry_CB_3F => .noEntryCb 0x3F#8
  | .bit_0_B => .cbBitR 0 .b
  | .bit_0_C => .cbBitR 0 .c
  | .bit_0_D => .cbBitR 0 .d
  | .bit_0_E => .cbBitR 0 .e
  | .bit_0_H => .cbBitR 0 .h
  | .bit_0_L => .cbBitR 0 .l
  | .bit_0_mHL => .cbBitHl 0
  | .bit_0_A => .cbBitR 0 .a
  | .bit_1_B => .cbBitR 1 .b
  | .bit_1_C => .cbBitR 1 .c
  | .bit_1_D => .cbBitR 1 .d
  | .bit_1_E => .cbBitR 1 .e
  | .bit_1_H => .cbBitR 1 .h
  | .bit_1_L => .cbBitR 1 .l
  | .bit_1_mHL => .cbBitHl 1
  | .bit_1_A => .cbBitR 1 .a
  | .bit_2_B => .cbBitR 2 .b
  | .bit_2_C => .cbBitR 2 .c
  | .bit_2_D => .cbBitR 2 .d
  | .bit_2_E => .cbBitR 2 .e
  | .bit_2_H => .cbBitR 2 .h
  | .bit_2_L => .cbBitR 2 .l
  | .bit_2_mHL => .cbBitHl 2
  | .bit_2_A => .cbBitR 2 .a
  | .bit_3_B => .cbBitR 3 .b
  | .bit_3_C => .cbBitR 3 .c
  | .bit_3_D => .cbBitR 3 .d
  | .bit_3_E => .cbBitR 3 .e
  | .bit_3_H => .cbBitR 3 .h
  | .bit_3_L => .cbBitR 3 .l
  | .bit_3_mHL => .cbBitHl 3
  | .bit_3_A => .cbBitR 3 .a
  | .bit_4_B => .cbBitR 4 .b
  | .bit_4_C => .cbBitR 4 .c
  | .bit_4_D => .cbBitR 4 .d
  | .bit_4_E => .cbBitR 4 .e
  | .bit_4_H => .cbBitR 4 .h
  | .bit_4_L => .cbBitR 4 .l
  | .bit_4_mHL => .cbBitHl 4
  | .bit_4_A => .cbBitR 4 .a
  | .bit_5_B => .cbBitR 5 .b
  | .bit_5_C => .cbBitR 5 .c
  | .bit_5_D => .cbBitR 5 .d
  | .bit_5_E => .cbBitR 5 .e
  | .bit_5_H => .cbBitR 5 .h
  | .bit_5_L => .cbBitR 5 .l
  | .bit_5_mHL => .cbBitHl 5
  | .bit_5_A => .cbBitR 5 .a
  | .bit_6_B => .cbBitR 6 .b
  | .bit_6_C => .cbBitR 6 .c
  | .bit_6_D => .cbBitR 6 .d
  | .bit_6_E => .cbBitR 6 .e
  | .bit_6_H => .cbBitR 6 .h
  | .bit_6_L => .cbBitR 6 .l
  | .bit_6_mHL => .cbBitHl 6
  | .bit_6_A => .cbBitR 6 .a
  | .bit_7_B => .cbBitR 7 .b
  | .bit_7_C => .cbBitR 7 .c
  | .bit_7_D => .cbBitR 7 .d
  | .bit_7_E => .cbBitR 7 .e
  | .bit_7_H => .cbBitR 7 .h
  | .bit_7_L => .cbBitR 7 .l
  | .bit_7_mHL => .cbBitHl 7
  | .bit_7_A => .cbBitR 7 .a
  | .noEntry_CB_80 => .noEntryCb 0x80#8
  | .noEntry_CB_81 => .noEntryCb 0x81#8
  | .noEntry_CB_82 => .noEntryCb 0x82#8
  | .noEntry_CB_83 => .noEntryCb 0x83#8
  | .noEntry_CB_84 => .noEntryCb 0x84#8
  | .noEntry_CB_85 => .noEntryCb 0x85#8
  | .noEntry_CB_86 => .noEntryCb 0x86#8
  | .noEntry_CB_87 => .noEntryCb 0x87#8
  | .noEntry_CB_88 => .noEntryCb 0x88#8
  | .noEntry_CB_89 => .noEntryCb 0x89#8
  | .noEntry_CB_8A => .noEntryCb 0x8A#8
  | .noEntry_CB_8B => .noEntryCb 0x8B#8
  | .noEntry_CB_8C => .noEntryCb 0x8C#8
  | .noEntry_CB_8D => .noEntryCb 0x8D#8
  | .noEntry_CB_8E => .noEntryCb 0x8E#8
  | .noEntry_CB_8F => .noEntryCb 0x8F#8
  | .noEntry_CB_90 => .noEntryCb 0x90#8
  | .noEntry_CB_91 => .noEntryCb 0x91#8
  | .noEntry_CB_92 => .noEntryCb 0x92#8
  | .noEntry_CB_93 => .noEntryCb 0x93#8
  | .noEntry_CB_94 => .noEntryCb 0x94#8
  | .noEntry_CB_95 => .noEntryCb 0x95#8
  | .noEntry_CB_96 => .noEntryCb 0x96#8
  | .noEntry_CB_97 => .noEntryCb 0x97#8
  | .noEntry_CB_98 => .noEntryCb 0x98#8
  | .noEntry_CB_99 => .noEntryCb 0x99#8
  | .noEntry_CB_9A => .noEntryCb 0x9A#8
  | .noEntry_CB_9B => .noEntryCb 0x9B#8
  | .noEntry_CB_9C => .noEntryCb 0x9C#8
  | .noEntry_CB_9D => .noEntryCb 0x9D#8
  | .noEntry_CB_9E => .noEntryCb 0x9E#8
  | .noEntry_CB_9F => .noEntryCb 0x9F#8
  | .noEntry_CB_A0 => .noEntryCb 0xA0#8
  | .noEntry_CB_A1 => .noEntryCb 0xA1#8
  | .noEntry_CB_A2 => .noEntryCb 0xA2#8
  | .noEntry_CB_A3 => .noEntryCb 0xA3#8
  | .noEntry_CB_A4 => .noEntryCb 0xA4#8
  | .noEntry_CB_A5 => .noEntryCb 0xA5#8
  | .noEntry_CB_A6 => .noEntryCb 0xA6#8
  | .noEntry_CB_A7 => .noEntryCb 0xA7#8
  | .noEntry_CB_A8 => .noEntryCb 0xA8#8
  | .noEntry_CB_A9 => .noEntryCb 0xA9#8
  | .noEntry_CB_AA => .noEntryCb 0xAA#8
  | .noEntry_CB_AB => .noEntryCb 0xAB#8
  | .noEntry_CB_AC => .noEntryCb 0xAC#8
  | .noEntry_CB_AD => .noEntryCb 0xAD#8
  | .noEntry_CB_AE => .noEntryCb 0xAE#8
  | .noEntry_CB_AF => .noEntryCb 0xAF#8
  | .noEntry_CB_B0 => .noEntryCb 0xB0#8
  | .noEntry_CB_B1 => .noEntryCb 0xB1#8
  | .noEntry_CB_B2 => .noEntryCb 0xB2#8
  | .noEntry_CB_B3 => .noEntryCb 0xB3#8
  | .noEntry_CB_B4 => .noEntryCb 0xB4#8
  | .noEntry_CB_B5 => .noEntryCb 0xB5#8
  | .noEntry_CB_B6 => .noEntryCb 0xB6#8
  | .noEntry_CB_B7 => .noEntryCb 0xB7#8
  | .noEntry_CB_B8 => .noEntryCb 0xB8#8
  | .noEntry_CB_B9 => .noEntryCb 0xB9#8
  | .noEntry_CB_BA => .noEntryCb 0xBA#8
  | .noEntry_CB_BB => .noEntryCb 0xBB#8
  | .noEntry_CB_BC => .noEntryCb 0xBC#8
  | .noEntry_CB_BD => .noEntryCb 0xBD#8
  | .noEntry_CB_BE => .noEntryCb 0xBE#8
  | .noEntry_CB_BF => .noEntryCb 0xBF#8
  | .noEntry_CB_C0 => .noEntryCb 0xC0#8
  | .noEntry_CB_C1 => .noEntryCb 0xC1#8
  | .noEntry_CB_C2 => .noEntryCb 0xC2#8
  | .noEntry_CB_C3 => .noEntryCb 0xC3#8
  | .noEntry_CB_C4 => .noEntryCb 0xC4#8
  | .noEntry_CB_C5 => .noEntryCb 0xC5#8
  | .noEntry_CB_C6 => .noEntryCb 0xC6#8
  | .noEntry_CB_C7 => .noEntryCb 0xC7#8
  | .noEntry_CB_C8 => .noEntryCb 0xC8#8
  | .noEntry_CB_C9 => .noEntryCb 0xC9#8
  | .noEntry_CB_CA => .noEntryCb 0xCA#8
  | .noEntry_CB_CB => .noEntryCb 0xCB#8
  | .noEntry_CB_CC => .noEntryCb 0xCC#8
  | .noEntry_CB_CD => .noEntryCb 0xCD#8
  | .noEntry_CB_CE => .noEntryCb 0xCE#8
  | .noEntry_CB_CF => .noEntryCb 0xCF#8
  | .noEntry_CB_D0 => .noEntryCb 0xD0#8
  | .noEntry_CB_D1 => .noEntryCb 0xD1#8
  | .noEntry_CB_D2 => .noEntryCb 0xD2#8
  | .noEntry_CB_D3 => .noEntryCb 0xD3#8
  | .noEntry_CB_D4 => .noEntryCb 0xD4#8
  | .noEntry_CB_D5 => .noEntryCb 0xD5#8
  | .noEntry_CB_D6 => .noEntryCb 0xD6#8
  | .noEntry_CB_D7 => .noEntryCb 0xD7#8
  | .noEntry_CB_D8 => .noEntryCb 0xD8#8
  | .noEntry_CB_D9 => .noEntryCb 0xD9#8
  | .noEntry_CB_DA => .noEntryCb 0xDA#8
  | .noEntry_CB_DB => .noEntryCb 0xDB#8
  | .noEntry_CB_DC => .noEntryCb 0xDC#8
  | .noEntry_CB_DD => .noEntryCb 0xDD#8
  | .noEntry_CB_DE => .noEntryCb 0xDE#8
  | .noEntry_CB_DF => .noEntryCb 0xDF#8
  | .noEntry_CB_E0 => .noEntryCb 0xE0#8
  | .noEntry_CB_E1 => .noEntryCb 0xE1#8
  | .noEntry_CB_E2 => .noEntryCb 0xE2#8
  | .noEntry_CB_E3 => .noEntryCb 0xE3#8
  | .noEntry_CB_E4 => .noEntryCb 0xE4#8
  | .noEntry_CB_E5 => .noEntryCb 0xE5#8
  | .noEntry_CB_E6 => .noEntryCb 0xE6#8
  | .noEntry_CB_E7 => .noEntryCb 0xE7#8
  | .noEntry_CB_E8 => .noEntryCb 0xE8#8
  | .noEntry_CB_E9 => .noEntryCb 0xE9#8
  | .noEntry_CB_EA => .noEntryCb 0xEA#8
  | .noEntry_CB_EB => .noEntryCb 0xEB#8
  | .noEntry_CB_EC => .noEntryCb 0xEC#8
  | .noEntry_CB_ED => .noEntryCb 0xED#8
  | .noEntry_CB_EE => .noEntryCb 0xEE#8
  | .noEntry_CB_EF => .noEntryCb 0xEF#8
  | .noEntry_CB_F0 => .noEntryCb 0xF0#8
  | .noEntry_CB_F1 => .noEntryCb 0xF1#8
  | .noEntry_CB_F2 => .noEntryCb 0xF2#8
  | .noEntry_CB_F3 => .noEntryCb 0xF3#8
  | .noEntry_CB_F4 => .noEntryCb 0xF4#8
  | .noEntry_CB_F5 => .noEntryCb 0xF5#8
  | .noEntry_CB_F6 => .noEntryCb 0xF6#8
  | .noEntry_CB_F7 => .noEntryCb 0xF7#8
  | .noEntry_CB_F8 => .noEntryCb 0xF8#8
  | .noEntry_CB_F9 => .noEntryCb 0xF9#8
  | .noEntry_CB_FA => .noEntryCb 0xFA#8
  | .noEntry_CB_FB => .noEntryCb 0xFB#8
  | .noEntry_CB_FC => .noEntryCb 0xFC#8
  | .noEntry_CB_FD => .noEntryCb 0xFD#8
  | .noEntry_CB_FE => .noEntryCb 0xFE#8
  | .noEntry_CB_FF => .noEntryCb 0xFF#8

end Sys2Proof
end

