-- ==== Sys2Proof/Decode.lean ====
section
/-! DEFINITION. Decoding by the two 256-entry tables of R90 and R96 (30_encoding.md), total on any bytes, and
after it the encoder, written from the bit patterns and field codes of R91 and R93. The byte values
are the spec's, marked there as general knowledge (log 7). -/

namespace Sys2Proof

/-- An entry of the base table: what follows the opcode byte, and the instruction it makes (R90, R99). -/
inductive Entry where
  | bare (i : Instr)
  | byte (f : Byte → Instr)
  | word (f : Word → Instr)

/-! ## The opcode map (R96), sixteen bytes a row -/

/-- Base bytes 0x00 to 0x0F. -/
def baseRow0 : List Entry :=
  [.bare .noEntry_00, .word .ld_BC_d16, .bare .ld_mBC_A, .bare .inc_BC,
    .bare .inc_B, .bare .dec_B, .byte .ld_B_d8, .bare .noEntry_07,
    .bare .noEntry_08, .bare .noEntry_09, .bare .ld_A_mBC, .bare .dec_BC,
    .bare .inc_C, .bare .dec_C, .byte .ld_C_d8, .bare .noEntry_0F]

/-- Base bytes 0x10 to 0x1F. -/
def baseRow1 : List Entry :=
  [.bare .noEntry_10, .word .ld_DE_d16, .bare .ld_mDE_A, .bare .inc_DE,
    .bare .inc_D, .bare .dec_D, .byte .ld_D_d8, .bare .rla,
    .byte .jr_i8, .bare .noEntry_19, .bare .ld_A_mDE, .bare .dec_DE,
    .bare .inc_E, .bare .dec_E, .byte .ld_E_d8, .bare .rra]

/-- Base bytes 0x20 to 0x2F. -/
def baseRow2 : List Entry :=
  [.byte .jr_NZ_i8, .word .ld_HL_d16, .bare .noEntry_22, .bare .inc_HL,
    .bare .inc_H, .bare .dec_H, .byte .ld_H_d8, .bare .noEntry_27,
    .byte .jr_Z_i8, .bare .noEntry_29, .bare .noEntry_2A, .bare .dec_HL,
    .bare .inc_L, .bare .dec_L, .byte .ld_L_d8, .bare .noEntry_2F]

/-- Base bytes 0x30 to 0x3F. -/
def baseRow3 : List Entry :=
  [.byte .jr_NC_i8, .word .ld_SP_d16, .bare .noEntry_32, .bare .inc_SP,
    .bare .noEntry_34, .bare .noEntry_35, .bare .noEntry_36, .bare .noEntry_37,
    .byte .jr_C_i8, .bare .noEntry_39, .bare .noEntry_3A, .bare .dec_SP,
    .bare .inc_A, .bare .dec_A, .byte .ld_A_d8, .bare .noEntry_3F]

/-- Base bytes 0x40 to 0x4F. -/
def baseRow4 : List Entry :=
  [.bare .ld_B_B, .bare .ld_B_C, .bare .ld_B_D, .bare .ld_B_E,
    .bare .ld_B_H, .bare .ld_B_L, .bare .ld_B_mHL, .bare .ld_B_A,
    .bare .ld_C_B, .bare .ld_C_C, .bare .ld_C_D, .bare .ld_C_E,
    .bare .ld_C_H, .bare .ld_C_L, .bare .ld_C_mHL, .bare .ld_C_A]

/-- Base bytes 0x50 to 0x5F. -/
def baseRow5 : List Entry :=
  [.bare .ld_D_B, .bare .ld_D_C, .bare .ld_D_D, .bare .ld_D_E,
    .bare .ld_D_H, .bare .ld_D_L, .bare .ld_D_mHL, .bare .ld_D_A,
    .bare .ld_E_B, .bare .ld_E_C, .bare .ld_E_D, .bare .ld_E_E,
    .bare .ld_E_H, .bare .ld_E_L, .bare .ld_E_mHL, .bare .ld_E_A]

/-- Base bytes 0x60 to 0x6F. -/
def baseRow6 : List Entry :=
  [.bare .ld_H_B, .bare .ld_H_C, .bare .ld_H_D, .bare .ld_H_E,
    .bare .ld_H_H, .bare .ld_H_L, .bare .ld_H_mHL, .bare .ld_H_A,
    .bare .ld_L_B, .bare .ld_L_C, .bare .ld_L_D, .bare .ld_L_E,
    .bare .ld_L_H, .bare .ld_L_L, .bare .ld_L_mHL, .bare .ld_L_A]

/-- Base bytes 0x70 to 0x7F. -/
def baseRow7 : List Entry :=
  [.bare .ld_mHL_B, .bare .ld_mHL_C, .bare .ld_mHL_D, .bare .ld_mHL_E,
    .bare .ld_mHL_H, .bare .ld_mHL_L, .bare .noEntry_76, .bare .ld_mHL_A,
    .bare .ld_A_B, .bare .ld_A_C, .bare .ld_A_D, .bare .ld_A_E,
    .bare .ld_A_H, .bare .ld_A_L, .bare .ld_A_mHL, .bare .ld_A_A]

/-- Base bytes 0x80 to 0x8F. -/
def baseRow8 : List Entry :=
  [.bare .add_A_B, .bare .add_A_C, .bare .add_A_D, .bare .add_A_E,
    .bare .add_A_H, .bare .add_A_L, .bare .add_A_mHL, .bare .add_A_A,
    .bare .noEntry_88, .bare .noEntry_89, .bare .noEntry_8A, .bare .noEntry_8B,
    .bare .noEntry_8C, .bare .noEntry_8D, .bare .noEntry_8E, .bare .noEntry_8F]

/-- Base bytes 0x90 to 0x9F. -/
def baseRow9 : List Entry :=
  [.bare .sub_B, .bare .sub_C, .bare .sub_D, .bare .sub_E,
    .bare .sub_H, .bare .sub_L, .bare .sub_mHL, .bare .sub_A,
    .bare .noEntry_98, .bare .noEntry_99, .bare .noEntry_9A, .bare .noEntry_9B,
    .bare .noEntry_9C, .bare .noEntry_9D, .bare .noEntry_9E, .bare .noEntry_9F]

/-- Base bytes 0xA0 to 0xAF. -/
def baseRowA : List Entry :=
  [.bare .noEntry_A0, .bare .noEntry_A1, .bare .noEntry_A2, .bare .noEntry_A3,
    .bare .noEntry_A4, .bare .noEntry_A5, .bare .noEntry_A6, .bare .noEntry_A7,
    .bare .noEntry_A8, .bare .noEntry_A9, .bare .noEntry_AA, .bare .noEntry_AB,
    .bare .noEntry_AC, .bare .noEntry_AD, .bare .noEntry_AE, .bare .noEntry_AF]

/-- Base bytes 0xB0 to 0xBF. -/
def baseRowB : List Entry :=
  [.bare .noEntry_B0, .bare .noEntry_B1, .bare .noEntry_B2, .bare .noEntry_B3,
    .bare .noEntry_B4, .bare .noEntry_B5, .bare .noEntry_B6, .bare .noEntry_B7,
    .bare .cp_B, .bare .cp_C, .bare .cp_D, .bare .cp_E,
    .bare .cp_H, .bare .cp_L, .bare .cp_mHL, .bare .cp_A]

/-- Base bytes 0xC0 to 0xCF. -/
def baseRowC : List Entry :=
  [.bare .noEntry_C0, .bare .pop_BC, .bare .noEntry_C2, .bare .noEntry_C3,
    .bare .noEntry_C4, .bare .push_BC, .byte .add_A_d8, .bare .noEntry_C7,
    .bare .noEntry_C8, .bare .ret, .bare .noEntry_CA, .byte .prefixCB,
    .bare .noEntry_CC, .word .call_u16, .bare .noEntry_CE, .bare .noEntry_CF]

/-- Base bytes 0xD0 to 0xDF. -/
def baseRowD : List Entry :=
  [.bare .noEntry_D0, .bare .pop_DE, .bare .noEntry_D2, .bare .noEntry_D3,
    .bare .noEntry_D4, .bare .push_DE, .byte .sub_d8, .bare .noEntry_D7,
    .bare .noEntry_D8, .bare .reti, .bare .noEntry_DA, .bare .noEntry_DB,
    .bare .noEntry_DC, .bare .noEntry_DD, .bare .noEntry_DE, .bare .noEntry_DF]

/-- Base bytes 0xE0 to 0xEF. -/
def baseRowE : List Entry :=
  [.byte .ldh_mA8_A, .bare .pop_HL, .bare .ld_mC_A, .bare .noEntry_E3,
    .bare .noEntry_E4, .bare .push_HL, .bare .noEntry_E6, .bare .noEntry_E7,
    .bare .noEntry_E8, .bare .noEntry_E9, .word .ld_mA16_A, .bare .noEntry_EB,
    .bare .noEntry_EC, .bare .noEntry_ED, .bare .noEntry_EE, .bare .noEntry_EF]

/-- Base bytes 0xF0 to 0xFF. -/
def baseRowF : List Entry :=
  [.byte .ldh_A_mA8, .bare .pop_AF, .bare .ld_A_mC, .bare .di,
    .bare .noEntry_F4, .bare .push_AF, .bare .noEntry_F6, .bare .noEntry_F7,
    .bare .noEntry_F8, .bare .noEntry_F9, .word .ld_A_mA16, .bare .ei,
    .bare .noEntry_FC, .bare .noEntry_FD, .byte .cp_d8, .bare .noEntry_FF]

/-- Prefixed bytes 0x00 to 0x0F. -/
def prefixedRow0 : List Instr :=
  [.rlc_B, .rlc_C, .rlc_D, .rlc_E, .rlc_H, .rlc_L, .rlc_mHL, .rlc_A,
    .rrc_B, .rrc_C, .rrc_D, .rrc_E, .rrc_H, .rrc_L, .rrc_mHL, .rrc_A]

/-- Prefixed bytes 0x10 to 0x1F. -/
def prefixedRow1 : List Instr :=
  [.rl_B, .rl_C, .rl_D, .rl_E, .rl_H, .rl_L, .rl_mHL, .rl_A,
    .rr_B, .rr_C, .rr_D, .rr_E, .rr_H, .rr_L, .rr_mHL, .rr_A]

/-- Prefixed bytes 0x20 to 0x2F. -/
def prefixedRow2 : List Instr :=
  [.noEntry_CB_20, .noEntry_CB_21, .noEntry_CB_22, .noEntry_CB_23, .noEntry_CB_24, .noEntry_CB_25, .noEntry_CB_26, .noEntry_CB_27,
    .noEntry_CB_28, .noEntry_CB_29, .noEntry_CB_2A, .noEntry_CB_2B, .noEntry_CB_2C, .noEntry_CB_2D, .noEntry_CB_2E, .noEntry_CB_2F]

/-- Prefixed bytes 0x30 to 0x3F. -/
def prefixedRow3 : List Instr :=
  [.noEntry_CB_30, .noEntry_CB_31, .noEntry_CB_32, .noEntry_CB_33, .noEntry_CB_34, .noEntry_CB_35, .noEntry_CB_36, .noEntry_CB_37,
    .noEntry_CB_38, .noEntry_CB_39, .noEntry_CB_3A, .noEntry_CB_3B, .noEntry_CB_3C, .noEntry_CB_3D, .noEntry_CB_3E, .noEntry_CB_3F]

/-- Prefixed bytes 0x40 to 0x4F. -/
def prefixedRow4 : List Instr :=
  [.bit_0_B, .bit_0_C, .bit_0_D, .bit_0_E, .bit_0_H, .bit_0_L, .bit_0_mHL, .bit_0_A,
    .bit_1_B, .bit_1_C, .bit_1_D, .bit_1_E, .bit_1_H, .bit_1_L, .bit_1_mHL, .bit_1_A]

/-- Prefixed bytes 0x50 to 0x5F. -/
def prefixedRow5 : List Instr :=
  [.bit_2_B, .bit_2_C, .bit_2_D, .bit_2_E, .bit_2_H, .bit_2_L, .bit_2_mHL, .bit_2_A,
    .bit_3_B, .bit_3_C, .bit_3_D, .bit_3_E, .bit_3_H, .bit_3_L, .bit_3_mHL, .bit_3_A]

/-- Prefixed bytes 0x60 to 0x6F. -/
def prefixedRow6 : List Instr :=
  [.bit_4_B, .bit_4_C, .bit_4_D, .bit_4_E, .bit_4_H, .bit_4_L, .bit_4_mHL, .bit_4_A,
    .bit_5_B, .bit_5_C, .bit_5_D, .bit_5_E, .bit_5_H, .bit_5_L, .bit_5_mHL, .bit_5_A]

/-- Prefixed bytes 0x70 to 0x7F. -/
def prefixedRow7 : List Instr :=
  [.bit_6_B, .bit_6_C, .bit_6_D, .bit_6_E, .bit_6_H, .bit_6_L, .bit_6_mHL, .bit_6_A,
    .bit_7_B, .bit_7_C, .bit_7_D, .bit_7_E, .bit_7_H, .bit_7_L, .bit_7_mHL, .bit_7_A]

/-- Prefixed bytes 0x80 to 0x8F. -/
def prefixedRow8 : List Instr :=
  [.noEntry_CB_80, .noEntry_CB_81, .noEntry_CB_82, .noEntry_CB_83, .noEntry_CB_84, .noEntry_CB_85, .noEntry_CB_86, .noEntry_CB_87,
    .noEntry_CB_88, .noEntry_CB_89, .noEntry_CB_8A, .noEntry_CB_8B, .noEntry_CB_8C, .noEntry_CB_8D, .noEntry_CB_8E, .noEntry_CB_8F]

/-- Prefixed bytes 0x90 to 0x9F. -/
def prefixedRow9 : List Instr :=
  [.noEntry_CB_90, .noEntry_CB_91, .noEntry_CB_92, .noEntry_CB_93, .noEntry_CB_94, .noEntry_CB_95, .noEntry_CB_96, .noEntry_CB_97,
    .noEntry_CB_98, .noEntry_CB_99, .noEntry_CB_9A, .noEntry_CB_9B, .noEntry_CB_9C, .noEntry_CB_9D, .noEntry_CB_9E, .noEntry_CB_9F]

/-- Prefixed bytes 0xA0 to 0xAF. -/
def prefixedRowA : List Instr :=
  [.noEntry_CB_A0, .noEntry_CB_A1, .noEntry_CB_A2, .noEntry_CB_A3, .noEntry_CB_A4, .noEntry_CB_A5, .noEntry_CB_A6, .noEntry_CB_A7,
    .noEntry_CB_A8, .noEntry_CB_A9, .noEntry_CB_AA, .noEntry_CB_AB, .noEntry_CB_AC, .noEntry_CB_AD, .noEntry_CB_AE, .noEntry_CB_AF]

/-- Prefixed bytes 0xB0 to 0xBF. -/
def prefixedRowB : List Instr :=
  [.noEntry_CB_B0, .noEntry_CB_B1, .noEntry_CB_B2, .noEntry_CB_B3, .noEntry_CB_B4, .noEntry_CB_B5, .noEntry_CB_B6, .noEntry_CB_B7,
    .noEntry_CB_B8, .noEntry_CB_B9, .noEntry_CB_BA, .noEntry_CB_BB, .noEntry_CB_BC, .noEntry_CB_BD, .noEntry_CB_BE, .noEntry_CB_BF]

/-- Prefixed bytes 0xC0 to 0xCF. -/
def prefixedRowC : List Instr :=
  [.noEntry_CB_C0, .noEntry_CB_C1, .noEntry_CB_C2, .noEntry_CB_C3, .noEntry_CB_C4, .noEntry_CB_C5, .noEntry_CB_C6, .noEntry_CB_C7,
    .noEntry_CB_C8, .noEntry_CB_C9, .noEntry_CB_CA, .noEntry_CB_CB, .noEntry_CB_CC, .noEntry_CB_CD, .noEntry_CB_CE, .noEntry_CB_CF]

/-- Prefixed bytes 0xD0 to 0xDF. -/
def prefixedRowD : List Instr :=
  [.noEntry_CB_D0, .noEntry_CB_D1, .noEntry_CB_D2, .noEntry_CB_D3, .noEntry_CB_D4, .noEntry_CB_D5, .noEntry_CB_D6, .noEntry_CB_D7,
    .noEntry_CB_D8, .noEntry_CB_D9, .noEntry_CB_DA, .noEntry_CB_DB, .noEntry_CB_DC, .noEntry_CB_DD, .noEntry_CB_DE, .noEntry_CB_DF]

/-- Prefixed bytes 0xE0 to 0xEF. -/
def prefixedRowE : List Instr :=
  [.noEntry_CB_E0, .noEntry_CB_E1, .noEntry_CB_E2, .noEntry_CB_E3, .noEntry_CB_E4, .noEntry_CB_E5, .noEntry_CB_E6, .noEntry_CB_E7,
    .noEntry_CB_E8, .noEntry_CB_E9, .noEntry_CB_EA, .noEntry_CB_EB, .noEntry_CB_EC, .noEntry_CB_ED, .noEntry_CB_EE, .noEntry_CB_EF]

/-- Prefixed bytes 0xF0 to 0xFF. -/
def prefixedRowF : List Instr :=
  [.noEntry_CB_F0, .noEntry_CB_F1, .noEntry_CB_F2, .noEntry_CB_F3, .noEntry_CB_F4, .noEntry_CB_F5, .noEntry_CB_F6, .noEntry_CB_F7,
    .noEntry_CB_F8, .noEntry_CB_F9, .noEntry_CB_FA, .noEntry_CB_FB, .noEntry_CB_FC, .noEntry_CB_FD, .noEntry_CB_FE, .noEntry_CB_FF]

/-- The base table, by the high nibble of the byte. -/
def baseTable : List (List Entry) :=
  [baseRow0, baseRow1, baseRow2, baseRow3, baseRow4, baseRow5, baseRow6, baseRow7,
    baseRow8, baseRow9, baseRowA, baseRowB, baseRowC, baseRowD, baseRowE, baseRowF]

/-- The prefixed table, by the high nibble of the byte. -/
def prefixedTable : List (List Instr) :=
  [prefixedRow0, prefixedRow1, prefixedRow2, prefixedRow3, prefixedRow4, prefixedRow5, prefixedRow6, prefixedRow7,
    prefixedRow8, prefixedRow9, prefixedRowA, prefixedRowB, prefixedRowC, prefixedRowD, prefixedRowE, prefixedRowF]

/-! ## Decoding -/

/-- The base table's entry for a byte. -/
def baseEntry (op : Byte) : Entry :=
  (baseTable.getD (op.toNat / 16) []).getD (op.toNat % 16) (.bare .noEntry_FF)

/-- How many bytes follow the opcode byte. -/
def Entry.operandCount : Entry → Nat
  | .bare _ => 0
  | .byte _ => 1
  | .word _ => 2

/-- The instruction an entry makes of the two bytes after the opcode byte (R95: the low byte first). -/
def Entry.instr (x y : Byte) : Entry → Instr
  | .bare i => i
  | .byte f => f x
  | .word f => f (Machine.join16 y x)

/-- How many bytes follow the opcode byte: the entry for it gives the length (R92, R99); for 0xCB it is the
second opcode byte, for a byte with no entry none. -/
def operandCount (op : Byte) : Nat := (baseEntry op).operandCount

/-- The base table's instruction for a byte, with the two bytes that follow it (R96, R99). -/
def decodeBase (op x y : Byte) : Instr := (baseEntry op).instr x y

/-- The prefixed table's entry for the byte after 0xCB (R94, R96). -/
def decodePrefixed (op2 : Byte) : Instr :=
  (prefixedTable.getD (op2.toNat / 16) []).getD (op2.toNat % 16) .noEntry_CB_FF

/-- The instruction an opcode byte and the two bytes after it stand for; bytes past the instruction's
own length do not matter. Total (R99). -/
def decodeBytes (op x y : Byte) : Instr := if op = Config.cbByte then decodePrefixed x else decodeBase op x y

/-- Why a list of bytes holds no whole instruction. A byte with no entry is none of these: it decodes to the
row that names the failure (R97, log 13). -/
inductive DecodeError where
  | empty
  | truncated (op : Byte)
  deriving DecidableEq, Repr

/-- What decoding a list of bytes answers: the instruction and the bytes after it, or why not. -/
inductive Decoded where
  | ok (i : Instr) (rest : List Byte)
  | rejected (why : DecodeError)
  deriving DecidableEq, Repr

/-- Decode the instruction at the head of a list of bytes (R99). -/
def decode : List Byte → Decoded
  | [] => .rejected .empty
  | op :: rest =>
    if rest.length < operandCount op then .rejected (.truncated op)
    else .ok (decodeBytes op (rest.getD 0 0) (rest.getD 1 0)) (rest.drop (operandCount op))

/-! ## The bytes of a table row -/

/-- The bytes of a word whose bits are numbered as spec/opcode_table.json numbers them. A base row has 8
bits; a prefixed row has 16, with 0xCB in the high half (R98); any other longer word is read with its
first byte lowest (log 15). The bits above are 0. -/
def tableBytes (nbits w : Nat) : Byte × Byte × Byte :=
  let byteAt (k : Nat) : Byte := BitVec.ofNat 8 (w >>> (8 * k))
  if nbits ≤ 8 then (byteAt 0, 0, 0)
  else if nbits ≤ 16 then
    if byteAt 1 = Config.cbByte then (byteAt 1, byteAt 0, 0) else (byteAt 0, byteAt 1, 0)
  else (byteAt 0, byteAt 1, byteAt 2)

/-- The instruction the decoder reads from a table word. A word of 8 bits is a row of the base table and
is looked up there; for 0xCB alone that is the prefix's own row, whose second byte is 0 (log 14). -/
def decodeTableWord (nbits w : Nat) : Option Instr :=
  let b := tableBytes nbits w
  if nbits ≤ 8 then some (decodeBase b.1 b.2.1 b.2.2) else some (decodeBytes b.1 b.2.1 b.2.2)

/-! ## The encoder, from the bit patterns of R91 and the field codes of R93 -/

/-- REG8. -/
def Reg8.code : Reg8 → BitVec 3
  | .b => 0
  | .c => 1
  | .d => 2
  | .e => 3
  | .h => 4
  | .l => 5
  | .a => 7

/-- REG16S. -/
def Pair.code : Pair → BitVec 2
  | .bc => 0
  | .de => 1
  | .hl => 2
  | .af => 3

/-- REG16. -/
def Reg16.code : Reg16 → BitVec 2
  | .bc => 0
  | .de => 1
  | .hl => 2
  | .sp => 3

/-- `p` of LD_RR_A and LD_A_RR, bit 4. -/
def IndPair.code : IndPair → BitVec 1
  | .bc => 0
  | .de => 1

/-- CC. -/
def Cond.code : Cond → BitVec 2
  | .nz => 0
  | .z => 1
  | .nc => 2
  | .c => 3

/-- `ooo`. -/
def AluOp.code : AluOp → BitVec 3
  | .add => 0
  | .sub => 2
  | .cp => 7

/-- `oo` of the prefixed rotates. -/
def RotKind.code : RotKind → BitVec 2
  | .rlc => 0
  | .rrc => 1
  | .rl => 2
  | .rr => 3

/-- `n` of BIT. -/
def bitCode (n : Fin 8) : BitVec 3 := BitVec.ofNat 3 n

/-- A 16-bit immediate, low byte first (R95). -/
def immBytes (w : Word) : List Byte := [Machine.lo8 w, Machine.hi8 w]

/-- The bytes of a format (R91, R93, R95). -/
def Form.bytes : Form → List Byte
  | .ldRR dst src => [0b01#2 ++ dst.code ++ src.code]
  | .ldRHl dst => [0b01#2 ++ dst.code ++ 0b110#3]
  | .ldHlR src => [0b01110#5 ++ src.code]
  | .ldRD8 dst d8 => [0b00#2 ++ dst.code ++ 0b110#3, d8]
  | .incR dst => [0b00#2 ++ dst.code ++ 0b100#3]
  | .decR dst => [0b00#2 ++ dst.code ++ 0b101#3]
  | .ldRrD16 rr d16 => (0b00#2 ++ rr.code ++ 0b0001#4) :: immBytes d16
  | .incRr rr => [0b00#2 ++ rr.code ++ 0b0011#4]
  | .decRr rr => [0b00#2 ++ rr.code ++ 0b1011#4]
  | .ldRrA p => [0b000#3 ++ p.code ++ 0b0010#4]
  | .ldARr p => [0b000#3 ++ p.code ++ 0b1010#4]
  | .rotA .left => [0b00010111#8]
  | .rotA .right => [0b00011111#8]
  | .jr i8 => [0b00011000#8, i8]
  | .jrCc cc i8 => [0b001#3 ++ cc.code ++ 0b000#3, i8]
  | .aluR op src => [0b10#2 ++ op.code ++ src.code]
  | .aluHl op => [0b10#2 ++ op.code ++ 0b110#3]
  | .aluD8 op d8 => [0b11#2 ++ op.code ++ 0b110#3, d8]
  | .pop p => [0b11#2 ++ p.code ++ 0b0001#4]
  | .push p => [0b11#2 ++ p.code ++ 0b0101#4]
  | .ret => [0b11001001#8]
  | .reti => [0b11011001#8]
  | .call u16 => 0b11001101#8 :: immBytes u16
  | .prefixCb op2 => [0b11001011#8, op2]
  | .ldhA8A a8 => [0b11100000#8, a8]
  | .ldhAA8 a8 => [0b11110000#8, a8]
  | .ldCA => [0b11100010#8]
  | .ldAC => [0b11110010#8]
  | .ldA16A a16 => 0b11101010#8 :: immBytes a16
  | .ldAA16 a16 => 0b11111010#8 :: immBytes a16
  | .di => [0b11110011#8]
  | .ei => [0b11111011#8]
  | .cbRotR k src => [0b11001011#8, 0b000#3 ++ k.code ++ src.code]
  | .cbRotHl k => [0b11001011#8, 0b000#3 ++ k.code ++ 0b110#3]
  | .cbBitR n src => [0b11001011#8, 0b01#2 ++ bitCode n ++ src.code]
  | .cbBitHl n => [0b11001011#8, 0b01#2 ++ bitCode n ++ 0b110#3]
  | .noEntry byte => [byte]
  | .noEntryCb byte => [0b11001011#8, byte]

/-- The bytes of an instruction, first byte first. -/
def encode (i : Instr) : List Byte := i.form.bytes

end Sys2Proof
end

