-- ==== Sys2Proof/Machine/State.lean ====
section
/-! DEFINITION. The state the spec gives the machine, as plain data (10_state.md), the reasons a step
can stop, and the state after reset (R47, R250). -/

namespace Sys2Proof.Machine

/-- What the memory collaborator behind the port holds (R48, R60, R61; log 24): for the flat memory (D24), the
bytes that differ from what an unlisted address reads as, by strictly rising address. That form is `Memory.wf` in
Machine/Memory.lean. -/
abbrev Memory := List Host.Cell

/-- One transaction at the memory port (R62): the address and the byte that went with it. -/
inductive Access where
  | read (addr : Word) (data : Byte)
  | write (addr : Word) (data : Byte)
  deriving DecidableEq, Repr

/-- The whole state: the register file (R30), PC (R37), SP (R39), IME (R40), EI_DELAY (R41),
ACC (R42), the memory with DIV, IF and IE in it (R43 to R45, R48), and the two outputs of a step
that R62 names (`port`, `tcycles`; log 16). -/
structure State where
  /-- Accumulator. -/
  a : Byte
  /-- Flags: Z N H C in bits 7..4 (R34), bits 3..0 zero (R33). -/
  f : Byte
  b : Byte
  c : Byte
  d : Byte
  e : Byte
  h : Byte
  l : Byte
  /-- Program counter (R37). -/
  pc : Word
  /-- Stack pointer (R39). -/
  sp : Word
  /-- Interrupt master enable (R40). -/
  ime : Bool
  /-- EI_DELAY, one of 0, 1, 2 (R41). -/
  eiDelay : Fin 3
  /-- Cycle accumulator: T-cycles since the last divider tick, 0..255 (R42). -/
  acc : Byte
  /-- The address space (R48). -/
  mem : Memory
  /-- MODEL (log 16): the transactions the latest step issued at the memory port, oldest first (R62, R77). -/
  port : List Access
  /-- MODEL (log 16): the T-cycles the latest completed step reports (R62, R265). -/
  tcycles : Nat
  deriving DecidableEq, Repr

/-- What ends a step without a next state. -/
inductive Fault where
  /-- R210: raised instead of an instruction, by a base byte (`prefixed = false`) or a byte after 0xCB
  (`prefixed = true`) that has no table entry. Safe: the run ends, as R211 says of the model. -/
  | unimplementedOpcode (prefixed : Bool) (byte : Byte)
  deriving DecidableEq, Repr

/-- What the model has no meaning for. -/
inductive Refusal where
  /-- Raised by an arm of `exec` whose instruction has no meaning yet; no arm of this model raises it. Safe. -/
  | notModelled (mnemonic : String)
  deriving DecidableEq, Repr

/-- What executing one instruction, or one step, answers. -/
abbrev Result := Host.Outcome State Fault Refusal

/-- Reset (R47, R250): every element of core state at its reset value, for either value of the open
parameter `IME_RESET` and whatever the memory holds (R251: reset does not touch memory, and issues
no transaction). ACC and EI_DELAY are the spec's decision D14 (log 8). -/
def State.resetWith (ime : Bool) (mem : Memory) : State :=
  { a := 0x00#8, f := 0x00#8, b := 0x00#8, c := 0x00#8, d := 0x00#8, e := 0x00#8, h := 0x00#8, l := 0x00#8,
    pc := 0x0000#16, sp := 0x0000#16, ime := ime, eiDelay := 0, acc := 0x00#8, mem := mem,
    port := [], tcycles := 0 }

/-- The machine right after reset, with the named value of `IME_RESET` (log 1) and no memory byte
listed (log 2). -/
def State.reset : State := State.resetWith Config.imeReset []

end Sys2Proof.Machine
end

