-- ==== Sys2Proof/Machine/Memory.lean ====
section
/-! DEFINITION. The flat memory (R60, R61, 20_memory.md; D24): a total read and a total write of one
byte, over the one canonical list of cells. -/

namespace Sys2Proof.Machine

/-- Every cell lies in the address space, above `lo`, in rising order, and holds a byte other than the
one an unlisted address reads as. -/
def Memory.wfFrom (lo : Nat) : Memory → Bool
  | [] => true
  | (k, v) :: m => decide (lo ≤ k) && decide (k < 65536) && decide (v ≠ Config.unlistedByte) && Memory.wfFrom (k + 1) m

/-- The canonical form: addresses below 65536 strictly rising, no cell that equals an unlisted byte. -/
def Memory.wf (m : Memory) : Bool := Memory.wfFrom 0 m

/-- The byte a list of cells holds at address `k`. -/
def Memory.lookup (k : Nat) : Memory → Byte
  | [] => Config.unlistedByte
  | (j, v) :: m => if j = k then v else Memory.lookup k m

/-- Store `v` at address `k`, keeping the canonical form. -/
def Memory.update (k : Nat) (v : Byte) : Memory → Memory
  | [] => if v = Config.unlistedByte then [] else [(k, v)]
  | (j, w) :: m =>
    if j < k then (j, w) :: Memory.update k v m
    else
      let rest := if j = k then m else (j, w) :: m
      if v = Config.unlistedByte then rest else (k, v) :: rest

/-- `read_byte` (R60): one byte for every 16-bit address. -/
def Memory.read (m : Memory) (a : Word) : Byte := m.lookup a.toNat

/-- `write_byte` (R61): the byte is stored at that address and every other address keeps its byte. -/
def Memory.write (m : Memory) (a : Word) (v : Byte) : Memory := m.update a.toNat v

end Sys2Proof.Machine
end

