-- ==== Sys2Proof/Machine/Params.lean ====
section
/-! DEFINITION. The parameters of R8 (00_scope.md), which the source leaves open, and the default the spec names for
each. Every operation that one of them reaches takes the parameters as its last argument, `Params.default`
where none is written; `exec`, `step` and the meanings are those at the defaults, `execForm` and `stepWith`
(Machine/Generic.lean) those at any. -/

namespace Sys2Proof.Machine

/-- The five interrupt sources (R220). -/
inductive Source where
  | vblank | lcdStat | timer | serial | joypad
  deriving DecidableEq, Repr

/-- A source's bit number in IF and IE, which is also its priority, lowest first (R220, R223). -/
def Source.bit : Source → Nat
  | .vblank => 0
  | .lcdStat => 1
  | .timer => 2
  | .serial => 3
  | .joypad => 4

/-- The default of `VEC(i)` (R220, D15): the address of the handler's first opcode. PRESUMED (log 5). -/
def vec : Source → Word
  | .vblank => 0x0040#16
  | .lcdStat => 0x0048#16
  | .timer => 0x0050#16
  | .serial => 0x0058#16
  | .joypad => 0x0060#16

namespace Cost

/-! The two costs the source fixes (R7): no parameter changes them. -/

/-- The 0xCB byte (R7, R202). -/
def pfx : Nat := 4
/-- Interrupt dispatch (R7, R224). -/
def dispatch : Nat := 20

/-! The default of `COST` by the rows of R104 (D18), in T-cycles. PRESUMED (log 6). The prefixed rows hold the
entry's own cost, without the 4 of the 0xCB byte. -/

def ldRR : Nat := 4
def ldRD8 : Nat := 8
/-- LD r,(HL); LD (HL),r; LD A,(BC); LD A,(DE); LD (BC),A; LD (DE),A. -/
def ldIndirect : Nat := 8
def ldRrD16 : Nat := 12
/-- INC r; DEC r. -/
def incDecR : Nat := 4
/-- INC rr; DEC rr, SP among them. -/
def incDecRr : Nat := 8
def aluR : Nat := 4
def aluHl : Nat := 8
def aluD8 : Nat := 8
/-- RLA; RRA. -/
def rotA : Nat := 4
/-- JR i8, and JR cc,i8 when taken. -/
def jrTaken : Nat := 12
def jrNotTaken : Nat := 8
def call : Nat := 24
/-- RET; RETI. -/
def ret : Nat := 16
def push : Nat := 16
def pop : Nat := 12
/-- LDH (a8),A; LDH A,(a8). -/
def ldhA8 : Nat := 12
/-- LD (C),A; LD A,(C). -/
def ldIoC : Nat := 8
/-- LD (a16),A; LD A,(a16). -/
def ldA16 : Nat := 16
/-- DI; EI. -/
def diEi : Nat := 4
def cbRotR : Nat := 4
def cbRotHl : Nat := 12
def cbBitR : Nat := 4
def cbBitHl : Nat := 8

/-- The row of R104 for a format. The bare prefix and a byte with no entry report no cost of their own. -/
def ofForm : Form → Nat
  | .ldRR _ _ => ldRR
  | .ldRHl _ => ldIndirect
  | .ldHlR _ => ldIndirect
  | .ldRD8 _ _ => ldRD8
  | .incR _ => incDecR
  | .decR _ => incDecR
  | .ldRrD16 _ _ => ldRrD16
  | .incRr _ => incDecRr
  | .decRr _ => incDecRr
  | .ldRrA _ => ldIndirect
  | .ldARr _ => ldIndirect
  | .rotA _ => rotA
  | .jr _ => jrTaken
  | .jrCc _ _ => jrTaken
  | .aluR _ _ => aluR
  | .aluHl _ => aluHl
  | .aluD8 _ _ => aluD8
  | .pop _ => pop
  | .push _ => push
  | .ret => ret
  | .reti => ret
  | .call _ => call
  | .prefixCb _ => 0
  | .ldhA8A _ => ldhA8
  | .ldhAA8 _ => ldhA8
  | .ldCA => ldIoC
  | .ldAC => ldIoC
  | .ldA16A _ => ldA16
  | .ldAA16 _ => ldA16
  | .di => diEi
  | .ei => diEi
  | .cbRotR _ _ => cbRotR
  | .cbRotHl _ => cbRotHl
  | .cbBitR _ _ => cbBitR
  | .cbBitHl _ => cbBitHl
  | .noEntry _ => 0
  | .noEntryCb _ => 0

end Cost

/-- `MEM` (R8, R60, R61, D24): the memory collaborator, a `read_byte` and a `write_byte`, both total. A read may
change the collaborator's state (R69), a write may be ignored or transformed (R61). Its state is held in
`State.mem`, a list of cells that it may use as it likes (log 24). -/
structure Mem where
  read : Memory → Word → Byte × Memory
  write : Memory → Word → Byte → Memory

/-- The default `MEM`: the flat array (R60, R61, D24; log 3). -/
def Mem.flat : Mem where
  read m a := (m.read a, m)
  write := Memory.write

/-- The parameters of R8. -/
structure Params where
  /-- `IME_RESET` (R47, D13). -/
  imeReset : Bool
  /-- `VEC(i)` (R220, D15). -/
  vec : Source → Word
  /-- `COST(op)` (R104, D18): the instruction's own cost, without the prefix's 4; of a conditional jump, when taken. -/
  cost : Form → Nat
  /-- `COST` of a conditional jump that is not taken (R104, R176). -/
  costNotTaken : Cond → Nat
  /-- `MEM` (R60, R61, D24). -/
  mem : Mem
  /-- `MEM_INIT` (R251, D14): what `MEM` holds at reset. -/
  memInit : Memory
  /-- `ENV` (R78, D24): from what `MEM` holds to what other agents may leave there between two steps. -/
  env : Memory → Memory → Prop

/-- The defaults of R8. IME_RESET and MEM_INIT, which have none, are the model's (log 1, log 2); ENV is that of a
closed system. -/
def Params.default : Params where
  imeReset := Config.imeReset
  vec := Machine.vec
  cost := Cost.ofForm
  costNotTaken _ := Cost.jrNotTaken
  mem := Mem.flat
  memInit := []
  env m n := m = n

end Sys2Proof.Machine
end

