-- ==== Sys2Proof/Machine/Ops.lean ====
section
/-! DEFINITION. The operations every instruction and the step share: the memory port (R60 to R62), fetch
(R64, R65), the stack (R66, R67), the cycle charge (R232), the EI-delay tick (R231), the interrupt
check (R222) with the one exception entry (R224) and the return from it (R182), and the decode
failure (R210). -/

namespace Sys2Proof.Machine

/-! ## The memory port -/

/-- `MemRead(addr, 1)` (R60): the byte `MEM` answers, and the transaction on the port (R69, R77). -/
def State.memRead (a : Word) (s : State) (P : Params := Params.default) : Byte × State :=
  let r := P.mem.read s.mem a
  (r.1, { s with mem := r.2, port := s.port ++ [.read a r.1] })

/-- `MemWrite(addr, 1, v)` (R61). -/
def State.memWrite (a : Word) (v : Byte) (s : State) (P : Params := Params.default) : State :=
  { s with mem := P.mem.write s.mem a v, port := s.port ++ [.write a v] }

/-! ## Fetch -/

/-- `Fetch8()` (R64): the byte at PC, and PC advanced by one, wrapping (R37). -/
def State.fetch8 (s : State) (P : Params := Params.default) : Byte × State :=
  let r := s.memRead s.pc P
  (r.1, { r.2 with pc := r.2.pc + 1 })

/-- `Fetch16()` (R65): the low byte first. -/
def State.fetch16 (s : State) (P : Params := Params.default) : Word × State :=
  let lo := s.fetch8 P
  let hi := lo.2.fetch8 P
  (join16 hi.1 lo.1, hi.2)

/-- The instruction at PC, with every byte of it fetched in program order (R77: the opcode, the byte
after 0xCB, then the operand bytes; all of them precede the instruction's data accesses, R75) and PC
past all of them (log 17). -/
def State.fetchInstr (s : State) (P : Params := Params.default) : Instr × State :=
  let op := s.fetch8 P
  match operandCount op.1 with
  | 0 => (decodeBytes op.1 0 0, op.2)
  | 1 =>
    let x := op.2.fetch8 P
    (decodeBytes op.1 x.1 0, x.2)
  | _ =>
    let w := op.2.fetch16 P
    (decodeBytes op.1 (lo8 w.1) (hi8 w.1), w.2)

/-! ## The stack -/

/-- `Push16(w)` (R66): SP is decremented before each byte, the high byte goes first, to the higher address. -/
def State.push16 (w : Word) (s : State) (P : Params := Params.default) : State :=
  let s1 := { s with sp := s.sp - 1 }
  let s2 := s1.memWrite s1.sp (hi8 w) P
  let s3 := { s2 with sp := s2.sp - 1 }
  s3.memWrite s3.sp (lo8 w) P

/-- `Pop16()` (R67): the low byte first, from the lower address; SP is incremented after each byte. -/
def State.pop16 (s : State) (P : Params := Params.default) : Word × State :=
  let lo := s.memRead s.sp P
  let s1 := { lo.2 with sp := lo.2.sp + 1 }
  let hi := s1.memRead s1.sp P
  let s2 := { hi.2 with sp := hi.2.sp + 1 }
  (join16 hi.1 lo.1, s2)

/-! ## How an instruction ends -/

/-- The instruction has completed and reports its cost (R104; R230 phase 2), which each format takes from `COST`. -/
def complete (cost : Nat) (s : State) : Result := .next { s with tcycles := cost }

/-- `raise UnimplementedOpcode(prefixed, byte)` (R210). The outcome carries no state, so the state
before the step stands: nothing of the step is kept (log 13). -/
def raiseUnimplemented (prefixed : Bool) (byte : Byte) (_ : State) : Result :=
  .fault (.unimplementedOpcode prefixed byte)

/-! ## The end of a step -/

/-- `Charge(n)` (R232): ACC counts n T-cycles; when it passes 255, DIV is read and written back plus
one, and ACC keeps the remainder (C4, D19). -/
def State.charge (n : Nat) (s : State) (P : Params := Params.default) : State :=
  let t := s.acc.toNat + n
  if 255 < t then
    let div := s.memRead Config.divAddr P
    let s1 := div.2.memWrite Config.divAddr (div.1 + 1) P
    { s1 with acc := BitVec.ofNat 8 (t - 256) }
  else
    { s with acc := BitVec.ofNat 8 t }

/-- `EiDelayTick()` (R231). -/
def State.eiDelayTick (s : State) : State :=
  match s.eiDelay with
  | 0 => s
  | 1 => { s with eiDelay := 0, ime := true }
  | 2 => { s with eiDelay := 1 }

/-- Source i's bit of a byte. -/
def Source.isIn (i : Source) (v : Byte) : Bool := v.getLsbD i.bit

/-- The least i in 0..4 with `pending[i] == 1` (R222, R223). -/
def leastPending (pending : Byte) : Option Source :=
  if Source.vblank.isIn pending then some .vblank
  else if Source.lcdStat.isIn pending then some .lcdStat
  else if Source.timer.isIn pending then some .timer
  else if Source.serial.isIn pending then some .serial
  else if Source.joypad.isIn pending then some .joypad
  else none

/-- Taking an exception: `Dispatch(i, ifv)` (R224). IME and the pending EI are cleared, bit i of the IF
byte that the check read is cleared in memory, PC is pushed, PC goes to the source's vector and 20
T-cycles are charged and reported (D12, D17, D20). -/
def State.dispatch (i : Source) (ifv : Byte) (s : State) (P : Params := Params.default) : State :=
  let s1 := { s with ime := false, eiDelay := 0 }
  let s2 := s1.memWrite Config.ifAddr (ifv &&& ~~~(1#8 <<< i.bit)) P
  let s3 := s2.push16 s2.pc P
  let s4 := { s3 with pc := P.vec i, tcycles := s3.tcycles + Cost.dispatch }
  s4.charge Cost.dispatch P

/-- The return from an exception, as RETI makes it (R182, R225): PC is popped, IME is set at once, a
pending EI is forgotten. -/
def State.returnFromInterrupt (s : State) (P : Params := Params.default) : State :=
  let w := s.pop16 P
  { w.2 with pc := w.1, ime := true, eiDelay := 0 }

/-- `InterruptCheck()` (R222): nothing is read when IME is 0; else IF, then IE; bits 7..5 are ignored
(D16); at most one source is dispatched. -/
def State.interruptCheck (s : State) (P : Params := Params.default) : State :=
  if s.ime then
    let ifv := s.memRead Config.ifAddr P
    let iev := ifv.2.memRead Config.ieAddr P
    match leastPending (ifv.1 &&& iev.1 &&& 0x1F#8) with
    | none => iev.2
    | some i => iev.2.dispatch i ifv.1 P
  else s

/-- Phases 3 to 5 of a step (R230): charge the reported cost, count the EI delay, check for an interrupt. -/
def State.endOfStep (s : State) (P : Params := Params.default) : State :=
  ((s.charge s.tcycles P).eiDelayTick).interruptCheck P

/-- Before phase 1: the port and the report of the previous step are cleared (log 16). -/
def State.beginStep (s : State) : State := { s with port := [], tcycles := 0 }

/-- What other agents do between two steps (R78): they leave `MEM` holding something else and touch nothing else;
which contents they may leave is the parameter `ENV`. -/
def State.env (m : Memory) (s : State) : State := { s with mem := m }

/-- Bytes laid into memory at ascending addresses (wrapping), from outside the core: no transaction. -/
def Memory.writeBytes (a : Word) : List Byte → Memory → Memory
  | [], m => m
  | b :: bs, m => Memory.writeBytes (a + 1) bs (m.write a b)

end Sys2Proof.Machine
end

