-- ==== Sys2Proof/Machine/Operands.lean ====
section
/-! DEFINITION. Registers and operand forms (10_state.md R30 to R33; 30_encoding.md R93, R95). -/

namespace Sys2Proof.Machine

/-- `x[r]` for the seven operand registers (R13, R31). -/
def State.reg (s : State) : Reg8 → Byte
  | .b => s.b
  | .c => s.c
  | .d => s.d
  | .e => s.e
  | .h => s.h
  | .l => s.l
  | .a => s.a

/-- `x[r] <- v`. -/
def State.setReg (r : Reg8) (v : Byte) (s : State) : State :=
  match r with
  | .b => { s with b := v }
  | .c => { s with c := v }
  | .d => { s with d := v }
  | .e => { s with e := v }
  | .h => { s with h := v }
  | .l => { s with l := v }
  | .a => { s with a := v }

/-- The one write port of F: bits 3..0 are dropped (R13, R33, C6). -/
def State.setF (v : Byte) (s : State) : State := { s with f := v &&& 0xF0#8 }

/-- `xx[p]` (R32): the first-named register in the high byte. -/
def State.pair (s : State) : Pair → Word
  | .bc => join16 s.b s.c
  | .de => join16 s.d s.e
  | .hl => join16 s.h s.l
  | .af => join16 s.a s.f

/-- `xx[p] <- w` (R32); of AF's low byte only the flag nibble is kept. -/
def State.setPair (p : Pair) (w : Word) (s : State) : State :=
  match p with
  | .bc => { s with b := hi8 w, c := lo8 w }
  | .de => { s with d := hi8 w, e := lo8 w }
  | .hl => { s with h := hi8 w, l := lo8 w }
  | .af => ({ s with a := hi8 w }).setF (lo8 w)

/-- The operand `rr` of LD rr,d16, INC rr, DEC rr: a pair, or SP (D5). -/
def State.reg16 (s : State) : Reg16 → Word
  | .bc => s.pair .bc
  | .de => s.pair .de
  | .hl => s.pair .hl
  | .sp => s.sp

def State.setReg16 (rr : Reg16) (w : Word) (s : State) : State :=
  match rr with
  | .bc => s.setPair .bc w
  | .de => s.setPair .de w
  | .hl => s.setPair .hl w
  | .sp => { s with sp := w }

/-- The address `(HL)`. -/
def State.addrHL (s : State) : Word := s.pair .hl

/-- The addresses `(BC)` and `(DE)` (D6). -/
def State.addrInd (s : State) : IndPair → Word
  | .bc => s.pair .bc
  | .de => s.pair .de

/-- `0xFF00 + zext_16(off)` (R95): the I/O page, never past 0xFFFF. -/
def ioAddr (off : Byte) : Word := 0xFF00#16 + zext16 off

end Sys2Proof.Machine
end

