-- ==== Sys2Proof/Machine/Flags.lean ====
section
/-! DEFINITION. The flags (R33 to R36, 10_state.md), the two ALU functions (R145, R146, 43_alu8.md) and
the four rotate functions (R160, 44_rotate.md). -/

namespace Sys2Proof.Machine

/-! ## Flag primitives (R34, R35) -/

def zMask : Byte := 0x80#8
def nMask : Byte := 0x40#8
def hMask : Byte := 0x20#8
def cMask : Byte := 0x10#8

/-- `set_flags(m)` (R35). -/
def State.setFlags (m : Byte) (s : State) : State := s.setF (s.f ||| m)

/-- `reset_flags(m)` (R35). -/
def State.resetFlags (m : Byte) (s : State) : State := s.setF (s.f &&& ~~~m)

/-- `test_flags(m) = ((x[F] & m) == m)` (R35): all requested bits, not any. -/
def State.testFlags (m : Byte) (s : State) : Bool := s.f &&& m == m

/-- The single-bit assignment (R35). -/
def State.writeFlag (m : Byte) (v : Bool) (s : State) : State := if v then s.setFlags m else s.resetFlags m

/-- The flag `Z`, F[7]. -/
def State.flagZ (s : State) : Bool := s.testFlags zMask

/-- The flag `N`, F[6]. -/
def State.flagN (s : State) : Bool := s.testFlags nMask

/-- The flag `Hf`, F[5]. -/
def State.flagH (s : State) : Bool := s.testFlags hMask

/-- The flag `Cy`, F[4]. -/
def State.flagC (s : State) : Bool := s.testFlags cMask

/-- `Z <- z; N <- n; Hf <- h`, Cy kept. -/
def State.writeZNH (z n h : Bool) (s : State) : State :=
  ((s.writeFlag zMask z).writeFlag nMask n).writeFlag hMask h

/-- `Z <- z; N <- n; Hf <- h; Cy <- c`. -/
def State.writeZNHC (z n h c : Bool) (s : State) : State := (s.writeZNH z n h).writeFlag cMask c

/-- The byte F as its four flags (R34). -/
def flagByte (z n h c : Bool) : Byte :=
  (if z then zMask else 0) ||| (if n then nMask else 0) ||| (if h then hMask else 0) ||| (if c then cMask else 0)

/-! ## Add and subtract -/

/-- `(res, z, n, h, c)` of R145 and R146. -/
structure AluResult where
  res : Byte
  z : Bool
  n : Bool
  h : Bool
  c : Bool
  deriving DecidableEq, Repr

/-- `add8(a, b)` (R145): the exact sums decide the carries, the result wraps. -/
def add8 (a b : Byte) : AluResult :=
  { res := a + b
    z := a + b == 0
    n := false
    h := decide (0x0F < (a &&& 0x0F#8).toNat + (b &&& 0x0F#8).toNat)
    c := decide (0xFF < a.toNat + b.toNat) }

/-- `sub8(a, b)` (R146): h and c are borrows. -/
def sub8 (a b : Byte) : AluResult :=
  { res := a - b
    z := a - b == 0
    n := true
    h := decide ((a &&& 0x0F#8).toNat < (b &&& 0x0F#8).toNat)
    c := decide (a.toNat < b.toNat) }

/-! ## Rotates: `(res, cout)` (R160) -/

def rlc8 (v : Byte) : Byte × Bool := ((v <<< 1) ||| bitByte (v.getLsbD 7), v.getLsbD 7)

def rrc8 (v : Byte) : Byte × Bool := ((v >>> 1) ||| (bitByte (v.getLsbD 0) <<< 7), v.getLsbD 0)

def rl8 (v : Byte) (cin : Bool) : Byte × Bool := ((v <<< 1) ||| bitByte cin, v.getLsbD 7)

def rr8 (v : Byte) (cin : Bool) : Byte × Bool := ((v >>> 1) ||| (bitByte cin <<< 7), v.getLsbD 0)

/-- The rotate a prefixed row names, on a byte and the old carry. -/
def rotate (k : RotKind) (v : Byte) (cin : Bool) : Byte × Bool :=
  match k with
  | .rlc => rlc8 v
  | .rrc => rrc8 v
  | .rl => rl8 v cin
  | .rr => rr8 v cin

/-- Whether a branch condition holds (R93, R176). -/
def State.holds (s : State) : Cond → Bool
  | .nz => !s.flagZ
  | .z => s.flagZ
  | .nc => !s.flagC
  | .c => s.flagC

end Sys2Proof.Machine
end

