-- ==== Sys2Proof/Machine/Alu8.lean ====
section
/-! DEFINITION. 8-bit add, subtract, compare (43_alu8.md, R147 to R155). -/

namespace Sys2Proof.Machine

/-- A combined with the operand byte `v`: all four flags from the operands as they were (R146), the
result to A, but for CP, which discards it (R153). -/
def State.alu (op : AluOp) (v : Byte) (s : State) : State :=
  match op with
  | .add =>
    let r := add8 s.a v
    ({ s with a := r.res }).writeZNHC r.z r.n r.h r.c
  | .sub =>
    let r := sub8 s.a v
    ({ s with a := r.res }).writeZNHC r.z r.n r.h r.c
  | .cp =>
    let r := sub8 s.a v
    s.writeZNHC r.z r.n r.h r.c

/-- `ADD A,r` (R147), `SUB r` (R150), `CP r` (R153). -/
def aluReg (op : AluOp) (r : Reg8) (s : State) (P : Params := Params.default) : Result :=
  complete (P.cost (.aluR op r)) (s.alu op (s.reg r))

/-- `ADD A,(HL)` (R148), `SUB (HL)` (R151), `CP (HL)` (R154): one read, no write. -/
def aluMem (op : AluOp) (s : State) (P : Params := Params.default) : Result :=
  let v := s.memRead s.addrHL P
  complete (P.cost (.aluHl op)) (v.2.alu op v.1)

/-- `ADD A,d8` (R149), `SUB d8` (R152), `CP d8` (R155). -/
def aluImm (op : AluOp) (d8 : Byte) (s : State) (P : Params := Params.default) : Result :=
  complete (P.cost (.aluD8 op d8)) (s.alu op d8)

/-! ## The meanings, one per row of the table -/

/-- R147: `ADD A,B`. -/
def execAdd_A_B (s : State) : Result := aluReg .add .b s

/-- R147: `ADD A,C`. -/
def execAdd_A_C (s : State) : Result := aluReg .add .c s

/-- R147: `ADD A,D`. -/
def execAdd_A_D (s : State) : Result := aluReg .add .d s

/-- R147: `ADD A,E`. -/
def execAdd_A_E (s : State) : Result := aluReg .add .e s

/-- R147: `ADD A,H`. -/
def execAdd_A_H (s : State) : Result := aluReg .add .h s

/-- R147: `ADD A,L`. -/
def execAdd_A_L (s : State) : Result := aluReg .add .l s

/-- R147: `ADD A,A`. -/
def execAdd_A_A (s : State) : Result := aluReg .add .a s

/-- R150: `SUB B`. -/
def execSub_B (s : State) : Result := aluReg .sub .b s

/-- R150: `SUB C`. -/
def execSub_C (s : State) : Result := aluReg .sub .c s

/-- R150: `SUB D`. -/
def execSub_D (s : State) : Result := aluReg .sub .d s

/-- R150: `SUB E`. -/
def execSub_E (s : State) : Result := aluReg .sub .e s

/-- R150: `SUB H`. -/
def execSub_H (s : State) : Result := aluReg .sub .h s

/-- R150: `SUB L`. -/
def execSub_L (s : State) : Result := aluReg .sub .l s

/-- R150: `SUB A`. -/
def execSub_A (s : State) : Result := aluReg .sub .a s

/-- R153: `CP B`. -/
def execCp_B (s : State) : Result := aluReg .cp .b s

/-- R153: `CP C`. -/
def execCp_C (s : State) : Result := aluReg .cp .c s

/-- R153: `CP D`. -/
def execCp_D (s : State) : Result := aluReg .cp .d s

/-- R153: `CP E`. -/
def execCp_E (s : State) : Result := aluReg .cp .e s

/-- R153: `CP H`. -/
def execCp_H (s : State) : Result := aluReg .cp .h s

/-- R153: `CP L`. -/
def execCp_L (s : State) : Result := aluReg .cp .l s

/-- R153: `CP A`. -/
def execCp_A (s : State) : Result := aluReg .cp .a s

/-- R148: `ADD A,(HL)`. -/
def execAdd_A_mHL (s : State) : Result := aluMem .add s

/-- R151: `SUB (HL)`. -/
def execSub_mHL (s : State) : Result := aluMem .sub s

/-- R154: `CP (HL)`. -/
def execCp_mHL (s : State) : Result := aluMem .cp s

/-- R149: `ADD A,d8`. -/
def execAdd_A_d8 (d8 : Byte) (s : State) : Result := aluImm .add d8 s

/-- R152: `SUB d8`. -/
def execSub_d8 (d8 : Byte) (s : State) : Result := aluImm .sub d8 s

/-- R155: `CP d8`. -/
def execCp_d8 (d8 : Byte) (s : State) : Result := aluImm .cp d8 s

end Sys2Proof.Machine
end

