-- ==== Sys2Proof/Machine/Bit.lean ====
section
/-! DEFINITION. Bit test (45_bit.md, R172, R173). -/

namespace Sys2Proof.Machine

/-- `BIT n,r` (R172): Z is the complement of the bit, N 0, Hf 1, Cy kept. -/
def bitReg (n : Fin 8) (r : Reg8) (s : State) (P : Params := Params.default) : Result :=
  complete (Cost.pfx + P.cost (.cbBitR n r)) (s.writeZNH (!(s.reg r).getLsbD n) false true)

/-- `BIT n,(HL)` (R173): one read, no write. -/
def bitMem (n : Fin 8) (s : State) (P : Params := Params.default) : Result :=
  let v := s.memRead s.addrHL P
  complete (Cost.pfx + P.cost (.cbBitHl n)) (v.2.writeZNH (!v.1.getLsbD n) false true)

/-! ## The meanings, one per row of the table -/

/-- R172: `BIT 0,B`. -/
def execBit_0_B (s : State) : Result := bitReg 0 .b s

/-- R172: `BIT 0,C`. -/
def execBit_0_C (s : State) : Result := bitReg 0 .c s

/-- R172: `BIT 0,D`. -/
def execBit_0_D (s : State) : Result := bitReg 0 .d s

/-- R172: `BIT 0,E`. -/
def execBit_0_E (s : State) : Result := bitReg 0 .e s

/-- R172: `BIT 0,H`. -/
def execBit_0_H (s : State) : Result := bitReg 0 .h s

/-- R172: `BIT 0,L`. -/
def execBit_0_L (s : State) : Result := bitReg 0 .l s

/-- R172: `BIT 0,A`. -/
def execBit_0_A (s : State) : Result := bitReg 0 .a s

/-- R172: `BIT 1,B`. -/
def execBit_1_B (s : State) : Result := bitReg 1 .b s

/-- R172: `BIT 1,C`. -/
def execBit_1_C (s : State) : Result := bitReg 1 .c s

/-- R172: `BIT 1,D`. -/
def execBit_1_D (s : State) : Result := bitReg 1 .d s

/-- R172: `BIT 1,E`. -/
def execBit_1_E (s : State) : Result := bitReg 1 .e s

/-- R172: `BIT 1,H`. -/
def execBit_1_H (s : State) : Result := bitReg 1 .h s

/-- R172: `BIT 1,L`. -/
def execBit_1_L (s : State) : Result := bitReg 1 .l s

/-- R172: `BIT 1,A`. -/
def execBit_1_A (s : State) : Result := bitReg 1 .a s

/-- R172: `BIT 2,B`. -/
def execBit_2_B (s : State) : Result := bitReg 2 .b s

/-- R172: `BIT 2,C`. -/
def execBit_2_C (s : State) : Result := bitReg 2 .c s

/-- R172: `BIT 2,D`. -/
def execBit_2_D (s : State) : Result := bitReg 2 .d s

/-- R172: `BIT 2,E`. -/
def execBit_2_E (s : State) : Result := bitReg 2 .e s

/-- R172: `BIT 2,H`. -/
def execBit_2_H (s : State) : Result := bitReg 2 .h s

/-- R172: `BIT 2,L`. -/
def execBit_2_L (s : State) : Result := bitReg 2 .l s

/-- R172: `BIT 2,A`. -/
def execBit_2_A (s : State) : Result := bitReg 2 .a s

/-- R172: `BIT 3,B`. -/
def execBit_3_B (s : State) : Result := bitReg 3 .b s

/-- R172: `BIT 3,C`. -/
def execBit_3_C (s : State) : Result := bitReg 3 .c s

/-- R172: `BIT 3,D`. -/
def execBit_3_D (s : State) : Result := bitReg 3 .d s

/-- R172: `BIT 3,E`. -/
def execBit_3_E (s : State) : Result := bitReg 3 .e s

/-- R172: `BIT 3,H`. -/
def execBit_3_H (s : State) : Result := bitReg 3 .h s

/-- R172: `BIT 3,L`. -/
def execBit_3_L (s : State) : Result := bitReg 3 .l s

/-- R172: `BIT 3,A`. -/
def execBit_3_A (s : State) : Result := bitReg 3 .a s

/-- R172: `BIT 4,B`. -/
def execBit_4_B (s : State) : Result := bitReg 4 .b s

/-- R172: `BIT 4,C`. -/
def execBit_4_C (s : State) : Result := bitReg 4 .c s

/-- R172: `BIT 4,D`. -/
def execBit_4_D (s : State) : Result := bitReg 4 .d s

/-- R172: `BIT 4,E`. -/
def execBit_4_E (s : State) : Result := bitReg 4 .e s

/-- R172: `BIT 4,H`. -/
def execBit_4_H (s : State) : Result := bitReg 4 .h s

/-- R172: `BIT 4,L`. -/
def execBit_4_L (s : State) : Result := bitReg 4 .l s

/-- R172: `BIT 4,A`. -/
def execBit_4_A (s : State) : Result := bitReg 4 .a s

/-- R172: `BIT 5,B`. -/
def execBit_5_B (s : State) : Result := bitReg 5 .b s

/-- R172: `BIT 5,C`. -/
def execBit_5_C (s : State) : Result := bitReg 5 .c s

/-- R172: `BIT 5,D`. -/
def execBit_5_D (s : State) : Result := bitReg 5 .d s

/-- R172: `BIT 5,E`. -/
def execBit_5_E (s : State) : Result := bitReg 5 .e s

/-- R172: `BIT 5,H`. -/
def execBit_5_H (s : State) : Result := bitReg 5 .h s

/-- R172: `BIT 5,L`. -/
def execBit_5_L (s : State) : Result := bitReg 5 .l s

/-- R172: `BIT 5,A`. -/
def execBit_5_A (s : State) : Result := bitReg 5 .a s

/-- R172: `BIT 6,B`. -/
def execBit_6_B (s : State) : Result := bitReg 6 .b s

/-- R172: `BIT 6,C`. -/
def execBit_6_C (s : State) : Result := bitReg 6 .c s

/-- R172: `BIT 6,D`. -/
def execBit_6_D (s : State) : Result := bitReg 6 .d s

/-- R172: `BIT 6,E`. -/
def execBit_6_E (s : State) : Result := bitReg 6 .e s

/-- R172: `BIT 6,H`. -/
def execBit_6_H (s : State) : Result := bitReg 6 .h s

/-- R172: `BIT 6,L`. -/
def execBit_6_L (s : State) : Result := bitReg 6 .l s

/-- R172: `BIT 6,A`. -/
def execBit_6_A (s : State) : Result := bitReg 6 .a s

/-- R172: `BIT 7,B`. -/
def execBit_7_B (s : State) : Result := bitReg 7 .b s

/-- R172: `BIT 7,C`. -/
def execBit_7_C (s : State) : Result := bitReg 7 .c s

/-- R172: `BIT 7,D`. -/
def execBit_7_D (s : State) : Result := bitReg 7 .d s

/-- R172: `BIT 7,E`. -/
def execBit_7_E (s : State) : Result := bitReg 7 .e s

/-- R172: `BIT 7,H`. -/
def execBit_7_H (s : State) : Result := bitReg 7 .h s

/-- R172: `BIT 7,L`. -/
def execBit_7_L (s : State) : Result := bitReg 7 .l s

/-- R172: `BIT 7,A`. -/
def execBit_7_A (s : State) : Result := bitReg 7 .a s

/-- R173: `BIT 0,(HL)`. -/
def execBit_0_mHL (s : State) : Result := bitMem 0 s

/-- R173: `BIT 1,(HL)`. -/
def execBit_1_mHL (s : State) : Result := bitMem 1 s

/-- R173: `BIT 2,(HL)`. -/
def execBit_2_mHL (s : State) : Result := bitMem 2 s

/-- R173: `BIT 3,(HL)`. -/
def execBit_3_mHL (s : State) : Result := bitMem 3 s

/-- R173: `BIT 4,(HL)`. -/
def execBit_4_mHL (s : State) : Result := bitMem 4 s

/-- R173: `BIT 5,(HL)`. -/
def execBit_5_mHL (s : State) : Result := bitMem 5 s

/-- R173: `BIT 6,(HL)`. -/
def execBit_6_mHL (s : State) : Result := bitMem 6 s

/-- R173: `BIT 7,(HL)`. -/
def execBit_7_mHL (s : State) : Result := bitMem 7 s

end Sys2Proof.Machine
end

