-- ==== Sys2Proof/Machine/Rotate.lean ====
section
/-! DEFINITION. Rotates (44_rotate.md, R161 to R170). -/

namespace Sys2Proof.Machine

/-- `RLA` (R161) and `RRA` (R162): A through carry; Z, N, Hf reset whatever the result. -/
def rotateAcc (dir : Dir) (s : State) (P : Params := Params.default) : Result :=
  let r := match dir with
    | .left => rl8 s.a s.flagC
    | .right => rr8 s.a s.flagC
  complete (P.cost (.rotA dir)) (({ s with a := r.1 }).writeZNHC false false false r.2)

/-- `RLC r`, `RRC r`, `RL r`, `RR r` (R163, R165, R167, R169), with the prefix's 4 T-cycles (R202). -/
def rotateReg (k : RotKind) (r : Reg8) (s : State) (P : Params := Params.default) : Result :=
  let x := rotate k (s.reg r) s.flagC
  complete (Cost.pfx + P.cost (.cbRotR k r)) ((s.setReg r x.1).writeZNHC (x.1 == 0) false false x.2)

/-- `RLC (HL)`, `RRC (HL)`, `RL (HL)`, `RR (HL)` (R164, R166, R168, R170): one read, then one write of
the same address, made even when the byte does not change. -/
def rotateMem (k : RotKind) (s : State) (P : Params := Params.default) : Result :=
  let addr := s.addrHL
  let v := s.memRead addr P
  let x := rotate k v.1 s.flagC
  complete (Cost.pfx + P.cost (.cbRotHl k)) ((v.2.memWrite addr x.1 P).writeZNHC (x.1 == 0) false false x.2)

/-! ## The meanings, one per row of the table -/

/-- R161: `RLA`. -/
def execRla (s : State) : Result := rotateAcc .left s

/-- R162: `RRA`. -/
def execRra (s : State) : Result := rotateAcc .right s

/-- R163: `RLC B`. -/
def execRlc_B (s : State) : Result := rotateReg .rlc .b s

/-- R163: `RLC C`. -/
def execRlc_C (s : State) : Result := rotateReg .rlc .c s

/-- R163: `RLC D`. -/
def execRlc_D (s : State) : Result := rotateReg .rlc .d s

/-- R163: `RLC E`. -/
def execRlc_E (s : State) : Result := rotateReg .rlc .e s

/-- R163: `RLC H`. -/
def execRlc_H (s : State) : Result := rotateReg .rlc .h s

/-- R163: `RLC L`. -/
def execRlc_L (s : State) : Result := rotateReg .rlc .l s

/-- R163: `RLC A`. -/
def execRlc_A (s : State) : Result := rotateReg .rlc .a s

/-- R165: `RRC B`. -/
def execRrc_B (s : State) : Result := rotateReg .rrc .b s

/-- R165: `RRC C`. -/
def execRrc_C (s : State) : Result := rotateReg .rrc .c s

/-- R165: `RRC D`. -/
def execRrc_D (s : State) : Result := rotateReg .rrc .d s

/-- R165: `RRC E`. -/
def execRrc_E (s : State) : Result := rotateReg .rrc .e s

/-- R165: `RRC H`. -/
def execRrc_H (s : State) : Result := rotateReg .rrc .h s

/-- R165: `RRC L`. -/
def execRrc_L (s : State) : Result := rotateReg .rrc .l s

/-- R165: `RRC A`. -/
def execRrc_A (s : State) : Result := rotateReg .rrc .a s

/-- R167: `RL B`. -/
def execRl_B (s : State) : Result := rotateReg .rl .b s

/-- R167: `RL C`. -/
def execRl_C (s : State) : Result := rotateReg .rl .c s

/-- R167: `RL D`. -/
def execRl_D (s : State) : Result := rotateReg .rl .d s

/-- R167: `RL E`. -/
def execRl_E (s : State) : Result := rotateReg .rl .e s

/-- R167: `RL H`. -/
def execRl_H (s : State) : Result := rotateReg .rl .h s

/-- R167: `RL L`. -/
def execRl_L (s : State) : Result := rotateReg .rl .l s

/-- R167: `RL A`. -/
def execRl_A (s : State) : Result := rotateReg .rl .a s

/-- R169: `RR B`. -/
def execRr_B (s : State) : Result := rotateReg .rr .b s

/-- R169: `RR C`. -/
def execRr_C (s : State) : Result := rotateReg .rr .c s

/-- R169: `RR D`. -/
def execRr_D (s : State) : Result := rotateReg .rr .d s

/-- R169: `RR E`. -/
def execRr_E (s : State) : Result := rotateReg .rr .e s

/-- R169: `RR H`. -/
def execRr_H (s : State) : Result := rotateReg .rr .h s

/-- R169: `RR L`. -/
def execRr_L (s : State) : Result := rotateReg .rr .l s

/-- R169: `RR A`. -/
def execRr_A (s : State) : Result := rotateReg .rr .a s

/-- R164: `RLC (HL)`. -/
def execRlc_mHL (s : State) : Result := rotateMem .rlc s

/-- R166: `RRC (HL)`. -/
def execRrc_mHL (s : State) : Result := rotateMem .rrc s

/-- R168: `RL (HL)`. -/
def execRl_mHL (s : State) : Result := rotateMem .rl s

/-- R170: `RR (HL)`. -/
def execRr_mHL (s : State) : Result := rotateMem .rr s

end Sys2Proof.Machine
end

