-- ==== Sys2Proof/Machine/ImePrefix.lean ====
section
/-! DEFINITION. Interrupt-enable toggles and the prefix (49_ime_prefix.md, R200 to R202). -/

namespace Sys2Proof.Machine

/-- `DI` (R200): at once; a pending EI is cancelled. -/
def disableIrq (s : State) (P : Params := Params.default) : Result :=
  complete (P.cost .di) { s with ime := false, eiDelay := 0 }

/-- `EI` (R201): IME itself is not written here; a pending EI is not restarted (D12). -/
def enableIrq (s : State) (P : Params := Params.default) : Result :=
  complete (P.cost .ei) (if s.eiDelay = 0 then { s with eiDelay := 2 } else s)

/-- `REG8` (R93); none stands for code 6, `(HL)`. -/
def reg8Of (z : BitVec 3) : Option Reg8 :=
  [some .b, some .c, some .d, some .e, some .h, some .l, none, some .a].getD z.toNat none

/-- `oo` of the rotates (R91). -/
def rotKindOf (y : BitVec 3) : RotKind := [.rlc, .rrc, .rl, .rr].getD y.toNat .rr

/-- The prefixed table's entry for the byte after 0xCB, by the bit patterns of R91: `01 nnn sss` is BIT,
`000 oo sss` a rotate, and every other byte has no entry (R97, R202). -/
def prefixedEntry (op2 : Byte) (s : State) (P : Params := Params.default) : Result :=
  let x := op2.extractLsb' 6 2
  let y := op2.extractLsb' 3 3
  let z := op2.extractLsb' 0 3
  if x = 1 then
    match reg8Of z with
    | some r => bitReg y.toFin r s P
    | none => bitMem y.toFin s P
  else if x = 0 ∧ y.toNat < 4 then
    match reg8Of z with
    | some r => rotateReg (rotKindOf y) r s P
    | none => rotateMem (rotKindOf y) s P
  else raiseUnimplemented true op2 s

/-! ## The meanings, one per row of the table -/

/-- R200: `DI`. -/
def execDi (s : State) : Result := disableIrq s

/-- R201: `EI`. -/
def execEi (s : State) : Result := enableIrq s

/-- R202: `PREFIX CB`. -/
def execPrefixCB (op2 : Byte) (s : State) : Result := prefixedEntry op2 s

end Sys2Proof.Machine
end

