-- ==== Sys2Proof/Machine/IncDec.lean ====
section
/-! DEFINITION. Increment and decrement (42_incdec.md, R135 to R140). -/

namespace Sys2Proof.Machine

/-- `INC r` (R135): Hf from the operand's low nibble (C1), Cy kept. -/
def incReg (r : Reg8) (s : State) (P : Params := Params.default) : Result :=
  let v := s.reg r
  complete (P.cost (.incR r)) ((s.setReg r (v + 1)).writeZNH (v + 1 == 0) false (v &&& 0x0F#8 == 0x0F#8))

/-- `DEC r` (R136): Hf from the operand's low nibble, Cy kept. -/
def decReg (r : Reg8) (s : State) (P : Params := Params.default) : Result :=
  let v := s.reg r
  complete (P.cost (.decR r)) ((s.setReg r (v - 1)).writeZNH (v - 1 == 0) true (v &&& 0x0F#8 == 0x00#8))

/-- `INC rr` for BC, DE, HL (R137) and SP (R139): no flag written. -/
def incReg16 (rr : Reg16) (s : State) (P : Params := Params.default) : Result :=
  complete (P.cost (.incRr rr)) (s.setReg16 rr (s.reg16 rr + 1))

/-- `DEC rr` for BC, DE, HL (R138) and SP (R140): no flag written. -/
def decReg16 (rr : Reg16) (s : State) (P : Params := Params.default) : Result :=
  complete (P.cost (.decRr rr)) (s.setReg16 rr (s.reg16 rr - 1))

/-! ## The meanings, one per row of the table -/

/-- R135: `INC B`. -/
def execInc_B (s : State) : Result := incReg .b s

/-- R135: `INC C`. -/
def execInc_C (s : State) : Result := incReg .c s

/-- R135: `INC D`. -/
def execInc_D (s : State) : Result := incReg .d s

/-- R135: `INC E`. -/
def execInc_E (s : State) : Result := incReg .e s

/-- R135: `INC H`. -/
def execInc_H (s : State) : Result := incReg .h s

/-- R135: `INC L`. -/
def execInc_L (s : State) : Result := incReg .l s

/-- R135: `INC A`. -/
def execInc_A (s : State) : Result := incReg .a s

/-- R136: `DEC B`. -/
def execDec_B (s : State) : Result := decReg .b s

/-- R136: `DEC C`. -/
def execDec_C (s : State) : Result := decReg .c s

/-- R136: `DEC D`. -/
def execDec_D (s : State) : Result := decReg .d s

/-- R136: `DEC E`. -/
def execDec_E (s : State) : Result := decReg .e s

/-- R136: `DEC H`. -/
def execDec_H (s : State) : Result := decReg .h s

/-- R136: `DEC L`. -/
def execDec_L (s : State) : Result := decReg .l s

/-- R136: `DEC A`. -/
def execDec_A (s : State) : Result := decReg .a s

/-- R137: `INC BC`. -/
def execInc_BC (s : State) : Result := incReg16 .bc s

/-- R137: `INC DE`. -/
def execInc_DE (s : State) : Result := incReg16 .de s

/-- R137: `INC HL`. -/
def execInc_HL (s : State) : Result := incReg16 .hl s

/-- R139: `INC SP`. -/
def execInc_SP (s : State) : Result := incReg16 .sp s

/-- R138: `DEC BC`. -/
def execDec_BC (s : State) : Result := decReg16 .bc s

/-- R138: `DEC DE`. -/
def execDec_DE (s : State) : Result := decReg16 .de s

/-- R138: `DEC HL`. -/
def execDec_HL (s : State) : Result := decReg16 .hl s

/-- R140: `DEC SP`. -/
def execDec_SP (s : State) : Result := decReg16 .sp s

end Sys2Proof.Machine
end

