-- ==== Sys2Proof/Machine/Load8.lean ====
section
/-! DEFINITION. 8-bit loads (40_ld8.md, R120 to R127): pure data movement, no flag written. -/

namespace Sys2Proof.Machine

/-! ## The shared operations of the loads and stores -/

/-- Load a register from memory: one read (R77); the address was taken before the register is written. -/
def loadMem (r : Reg8) (addr : Word) (cost : Nat) (s : State) (P : Params := Params.default) : Result :=
  let v := s.memRead addr P
  complete cost (v.2.setReg r v.1)

/-- Store a byte to memory: one write (R77). -/
def storeMem (addr : Word) (v : Byte) (cost : Nat) (s : State) (P : Params := Params.default) : Result :=
  complete cost (s.memWrite addr v P)

/-- `LD r,d8` (R120). -/
def loadImm (r : Reg8) (d8 : Byte) (s : State) (P : Params := Params.default) : Result :=
  complete (P.cost (.ldRD8 r d8)) (s.setReg r d8)

/-- `LD r,r'` (R121): the source is read before the destination is written. -/
def loadReg (dst src : Reg8) (s : State) (P : Params := Params.default) : Result :=
  complete (P.cost (.ldRR dst src)) (s.setReg dst (s.reg src))

/-- `LD r,(HL)` (R122). -/
def loadHl (r : Reg8) (s : State) (P : Params := Params.default) : Result :=
  loadMem r s.addrHL (P.cost (.ldRHl r)) s P

/-- `LD A,(BC)` (R123) and `LD A,(DE)` (R124). -/
def loadInd (p : IndPair) (s : State) (P : Params := Params.default) : Result :=
  loadMem .a (s.addrInd p) (P.cost (.ldARr p)) s P

/-- `LD (HL),r` (R125). -/
def storeHl (r : Reg8) (s : State) (P : Params := Params.default) : Result :=
  storeMem s.addrHL (s.reg r) (P.cost (.ldHlR r)) s P

/-- `LD (BC),A` (R126) and `LD (DE),A` (R127). -/
def storeInd (p : IndPair) (s : State) (P : Params := Params.default) : Result :=
  storeMem (s.addrInd p) s.a (P.cost (.ldRrA p)) s P

/-! ## The meanings, one per row of the table -/

/-- R120: `LD B,d8`. -/
def execLd_B_d8 (d8 : Byte) (s : State) : Result := loadImm .b d8 s

/-- R120: `LD C,d8`. -/
def execLd_C_d8 (d8 : Byte) (s : State) : Result := loadImm .c d8 s

/-- R120: `LD D,d8`. -/
def execLd_D_d8 (d8 : Byte) (s : State) : Result := loadImm .d d8 s

/-- R120: `LD E,d8`. -/
def execLd_E_d8 (d8 : Byte) (s : State) : Result := loadImm .e d8 s

/-- R120: `LD H,d8`. -/
def execLd_H_d8 (d8 : Byte) (s : State) : Result := loadImm .h d8 s

/-- R120: `LD L,d8`. -/
def execLd_L_d8 (d8 : Byte) (s : State) : Result := loadImm .l d8 s

/-- R120: `LD A,d8`. -/
def execLd_A_d8 (d8 : Byte) (s : State) : Result := loadImm .a d8 s

/-- R121: `LD B,B`. -/
def execLd_B_B (s : State) : Result := loadReg .b .b s

/-- R121: `LD B,C`. -/
def execLd_B_C (s : State) : Result := loadReg .b .c s

/-- R121: `LD B,D`. -/
def execLd_B_D (s : State) : Result := loadReg .b .d s

/-- R121: `LD B,E`. -/
def execLd_B_E (s : State) : Result := loadReg .b .e s

/-- R121: `LD B,H`. -/
def execLd_B_H (s : State) : Result := loadReg .b .h s

/-- R121: `LD B,L`. -/
def execLd_B_L (s : State) : Result := loadReg .b .l s

/-- R121: `LD B,A`. -/
def execLd_B_A (s : State) : Result := loadReg .b .a s

/-- R121: `LD C,B`. -/
def execLd_C_B (s : State) : Result := loadReg .c .b s

/-- R121: `LD C,C`. -/
def execLd_C_C (s : State) : Result := loadReg .c .c s

/-- R121: `LD C,D`. -/
def execLd_C_D (s : State) : Result := loadReg .c .d s

/-- R121: `LD C,E`. -/
def execLd_C_E (s : State) : Result := loadReg .c .e s

/-- R121: `LD C,H`. -/
def execLd_C_H (s : State) : Result := loadReg .c .h s

/-- R121: `LD C,L`. -/
def execLd_C_L (s : State) : Result := loadReg .c .l s

/-- R121: `LD C,A`. -/
def execLd_C_A (s : State) : Result := loadReg .c .a s

/-- R121: `LD D,B`. -/
def execLd_D_B (s : State) : Result := loadReg .d .b s

/-- R121: `LD D,C`. -/
def execLd_D_C (s : State) : Result := loadReg .d .c s

/-- R121: `LD D,D`. -/
def execLd_D_D (s : State) : Result := loadReg .d .d s

/-- R121: `LD D,E`. -/
def execLd_D_E (s : State) : Result := loadReg .d .e s

/-- R121: `LD D,H`. -/
def execLd_D_H (s : State) : Result := loadReg .d .h s

/-- R121: `LD D,L`. -/
def execLd_D_L (s : State) : Result := loadReg .d .l s

/-- R121: `LD D,A`. -/
def execLd_D_A (s : State) : Result := loadReg .d .a s

/-- R121: `LD E,B`. -/
def execLd_E_B (s : State) : Result := loadReg .e .b s

/-- R121: `LD E,C`. -/
def execLd_E_C (s : State) : Result := loadReg .e .c s

/-- R121: `LD E,D`. -/
def execLd_E_D (s : State) : Result := loadReg .e .d s

/-- R121: `LD E,E`. -/
def execLd_E_E (s : State) : Result := loadReg .e .e s

/-- R121: `LD E,H`. -/
def execLd_E_H (s : State) : Result := loadReg .e .h s

/-- R121: `LD E,L`. -/
def execLd_E_L (s : State) : Result := loadReg .e .l s

/-- R121: `LD E,A`. -/
def execLd_E_A (s : State) : Result := loadReg .e .a s

/-- R121: `LD H,B`. -/
def execLd_H_B (s : State) : Result := loadReg .h .b s

/-- R121: `LD H,C`. -/
def execLd_H_C (s : State) : Result := loadReg .h .c s

/-- R121: `LD H,D`. -/
def execLd_H_D (s : State) : Result := loadReg .h .d s

/-- R121: `LD H,E`. -/
def execLd_H_E (s : State) : Result := loadReg .h .e s

/-- R121: `LD H,H`. -/
def execLd_H_H (s : State) : Result := loadReg .h .h s

/-- R121: `LD H,L`. -/
def execLd_H_L (s : State) : Result := loadReg .h .l s

/-- R121: `LD H,A`. -/
def execLd_H_A (s : State) : Result := loadReg .h .a s

/-- R121: `LD L,B`. -/
def execLd_L_B (s : State) : Result := loadReg .l .b s

/-- R121: `LD L,C`. -/
def execLd_L_C (s : State) : Result := loadReg .l .c s

/-- R121: `LD L,D`. -/
def execLd_L_D (s : State) : Result := loadReg .l .d s

/-- R121: `LD L,E`. -/
def execLd_L_E (s : State) : Result := loadReg .l .e s

/-- R121: `LD L,H`. -/
def execLd_L_H (s : State) : Result := loadReg .l .h s

/-- R121: `LD L,L`. -/
def execLd_L_L (s : State) : Result := loadReg .l .l s

/-- R121: `LD L,A`. -/
def execLd_L_A (s : State) : Result := loadReg .l .a s

/-- R121: `LD A,B`. -/
def execLd_A_B (s : State) : Result := loadReg .a .b s

/-- R121: `LD A,C`. -/
def execLd_A_C (s : State) : Result := loadReg .a .c s

/-- R121: `LD A,D`. -/
def execLd_A_D (s : State) : Result := loadReg .a .d s

/-- R121: `LD A,E`. -/
def execLd_A_E (s : State) : Result := loadReg .a .e s

/-- R121: `LD A,H`. -/
def execLd_A_H (s : State) : Result := loadReg .a .h s

/-- R121: `LD A,L`. -/
def execLd_A_L (s : State) : Result := loadReg .a .l s

/-- R121: `LD A,A`. -/
def execLd_A_A (s : State) : Result := loadReg .a .a s

/-- R122: `LD B,(HL)`. -/
def execLd_B_mHL (s : State) : Result := loadHl .b s

/-- R122: `LD C,(HL)`. -/
def execLd_C_mHL (s : State) : Result := loadHl .c s

/-- R122: `LD D,(HL)`. -/
def execLd_D_mHL (s : State) : Result := loadHl .d s

/-- R122: `LD E,(HL)`. -/
def execLd_E_mHL (s : State) : Result := loadHl .e s

/-- R122: `LD H,(HL)`. -/
def execLd_H_mHL (s : State) : Result := loadHl .h s

/-- R122: `LD L,(HL)`. -/
def execLd_L_mHL (s : State) : Result := loadHl .l s

/-- R122: `LD A,(HL)`. -/
def execLd_A_mHL (s : State) : Result := loadHl .a s

/-- R123: `LD A,(BC)`. -/
def execLd_A_mBC (s : State) : Result := loadInd .bc s

/-- R124: `LD A,(DE)`. -/
def execLd_A_mDE (s : State) : Result := loadInd .de s

/-- R125: `LD (HL),B`. -/
def execLd_mHL_B (s : State) : Result := storeHl .b s

/-- R125: `LD (HL),C`. -/
def execLd_mHL_C (s : State) : Result := storeHl .c s

/-- R125: `LD (HL),D`. -/
def execLd_mHL_D (s : State) : Result := storeHl .d s

/-- R125: `LD (HL),E`. -/
def execLd_mHL_E (s : State) : Result := storeHl .e s

/-- R125: `LD (HL),H`. -/
def execLd_mHL_H (s : State) : Result := storeHl .h s

/-- R125: `LD (HL),L`. -/
def execLd_mHL_L (s : State) : Result := storeHl .l s

/-- R125: `LD (HL),A`. -/
def execLd_mHL_A (s : State) : Result := storeHl .a s

/-- R126: `LD (BC),A`. -/
def execLd_mBC_A (s : State) : Result := storeInd .bc s

/-- R127: `LD (DE),A`. -/
def execLd_mDE_A (s : State) : Result := storeInd .de s

end Sys2Proof.Machine
end

