-- ==== Sys2Proof/Machine/IoAbs.lean ====
section
/-! DEFINITION. I/O-page and absolute loads and stores (48_io_abs.md, R190 to R195): no flag written. -/

namespace Sys2Proof.Machine

/-- `LDH (a8),A` (R190). -/
def storeIoImm (a8 : Byte) (s : State) (P : Params := Params.default) : Result :=
  storeMem (ioAddr a8) s.a (P.cost (.ldhA8A a8)) s P

/-- `LDH A,(a8)` (R191). -/
def loadIoImm (a8 : Byte) (s : State) (P : Params := Params.default) : Result :=
  loadMem .a (ioAddr a8) (P.cost (.ldhAA8 a8)) s P

/-- `LD (C),A` (R192): C is the register. -/
def storeIoC (s : State) (P : Params := Params.default) : Result :=
  storeMem (ioAddr s.c) s.a (P.cost .ldCA) s P

/-- `LD A,(C)` (R193). -/
def loadIoC (s : State) (P : Params := Params.default) : Result :=
  loadMem .a (ioAddr s.c) (P.cost .ldAC) s P

/-- `LD (a16),A` (R194). -/
def storeAbs (a16 : Word) (s : State) (P : Params := Params.default) : Result :=
  storeMem a16 s.a (P.cost (.ldA16A a16)) s P

/-- `LD A,(a16)` (R195). -/
def loadAbs (a16 : Word) (s : State) (P : Params := Params.default) : Result :=
  loadMem .a a16 (P.cost (.ldAA16 a16)) s P

/-! ## The meanings, one per row of the table -/

/-- R190: `LDH (a8),A`. -/
def execLdh_mA8_A (a8 : Byte) (s : State) : Result := storeIoImm a8 s

/-- R191: `LDH A,(a8)`. -/
def execLdh_A_mA8 (a8 : Byte) (s : State) : Result := loadIoImm a8 s

/-- R192: `LD (C),A`. -/
def execLd_mC_A (s : State) : Result := storeIoC s

/-- R193: `LD A,(C)`. -/
def execLd_A_mC (s : State) : Result := loadIoC s

/-- R194: `LD (a16),A`. -/
def execLd_mA16_A (a16 : Word) (s : State) : Result := storeAbs a16 s

/-- R195: `LD A,(a16)`. -/
def execLd_A_mA16 (a16 : Word) (s : State) : Result := loadAbs a16 s

end Sys2Proof.Machine
end

