-- ==== Sys2Proof/Machine/Jump.lean ====
section
/-! DEFINITION. Relative jumps (46_jr.md, R175, R176). PC is past the offset byte when the meaning starts. -/

namespace Sys2Proof.Machine

/-- `JR i8` (R175). -/
def jumpRel (i8 : Byte) (s : State) (P : Params := Params.default) : Result :=
  complete (P.cost (.jr i8)) { s with pc := s.pc + sext16 i8 }

/-- `JR cc,i8` (R176): the offset byte has been fetched whether or not the jump is taken. -/
def jumpRelIf (cc : Cond) (i8 : Byte) (s : State) (P : Params := Params.default) : Result :=
  if s.holds cc then complete (P.cost (.jrCc cc i8)) { s with pc := s.pc + sext16 i8 }
  else complete (P.costNotTaken cc) s

/-! ## The meanings, one per row of the table -/

/-- R175: `JR i8`. -/
def execJr_i8 (i8 : Byte) (s : State) : Result := jumpRel i8 s

/-- R176: `JR NZ,i8`. -/
def execJr_NZ_i8 (i8 : Byte) (s : State) : Result := jumpRelIf .nz i8 s

/-- R176: `JR Z,i8`. -/
def execJr_Z_i8 (i8 : Byte) (s : State) : Result := jumpRelIf .z i8 s

/-- R176: `JR NC,i8`. -/
def execJr_NC_i8 (i8 : Byte) (s : State) : Result := jumpRelIf .nc i8 s

/-- R176: `JR C,i8`. -/
def execJr_C_i8 (i8 : Byte) (s : State) : Result := jumpRelIf .c i8 s

end Sys2Proof.Machine
end

