-- ==== Sys2Proof/Machine/Load16.lean ====
section
/-! DEFINITION. 16-bit immediate loads (41_ld16.md, R130, R131): no flag written. -/

namespace Sys2Proof.Machine

/-- `LD rr,d16` for BC, DE, HL (R130) and SP (R131). -/
def loadImm16 (rr : Reg16) (d16 : Word) (s : State) (P : Params := Params.default) : Result :=
  complete (P.cost (.ldRrD16 rr d16)) (s.setReg16 rr d16)

/-! ## The meanings, one per row of the table -/

/-- R130: `LD BC,d16`. -/
def execLd_BC_d16 (d16 : Word) (s : State) : Result := loadImm16 .bc d16 s

/-- R130: `LD DE,d16`. -/
def execLd_DE_d16 (d16 : Word) (s : State) : Result := loadImm16 .de d16 s

/-- R130: `LD HL,d16`. -/
def execLd_HL_d16 (d16 : Word) (s : State) : Result := loadImm16 .hl d16 s

/-- R131: `LD SP,d16`. -/
def execLd_SP_d16 (d16 : Word) (s : State) : Result := loadImm16 .sp d16 s

end Sys2Proof.Machine
end

