-- ==== Sys2Proof/Machine/NoEntry.lean ====
section
/-! DEFINITION. The bytes with no table entry (30_encoding.md, R97): fetching one as an opcode, or as the byte
after 0xCB, raises UnimplementedOpcode (R210), never anything else. -/

namespace Sys2Proof.Machine

/-! ## The meanings, one per row of the table -/

/-- R97: base byte 0x00. -/
def execNoEntry_00 (s : State) : Result := raiseUnimplemented false 0x00#8 s

/-- R97: base byte 0x07. -/
def execNoEntry_07 (s : State) : Result := raiseUnimplemented false 0x07#8 s

/-- R97: base byte 0x08. -/
def execNoEntry_08 (s : State) : Result := raiseUnimplemented false 0x08#8 s

/-- R97: base byte 0x09. -/
def execNoEntry_09 (s : State) : Result := raiseUnimplemented false 0x09#8 s

/-- R97: base byte 0x0F. -/
def execNoEntry_0F (s : State) : Result := raiseUnimplemented false 0x0F#8 s

/-- R97: base byte 0x10. -/
def execNoEntry_10 (s : State) : Result := raiseUnimplemented false 0x10#8 s

/-- R97: base byte 0x19. -/
def execNoEntry_19 (s : State) : Result := raiseUnimplemented false 0x19#8 s

/-- R97: base byte 0x22. -/
def execNoEntry_22 (s : State) : Result := raiseUnimplemented false 0x22#8 s

/-- R97: base byte 0x27. -/
def execNoEntry_27 (s : State) : Result := raiseUnimplemented false 0x27#8 s

/-- R97: base byte 0x29. -/
def execNoEntry_29 (s : State) : Result := raiseUnimplemented false 0x29#8 s

/-- R97: base byte 0x2A. -/
def execNoEntry_2A (s : State) : Result := raiseUnimplemented false 0x2A#8 s

/-- R97: base byte 0x2F. -/
def execNoEntry_2F (s : State) : Result := raiseUnimplemented false 0x2F#8 s

/-- R97: base byte 0x32. -/
def execNoEntry_32 (s : State) : Result := raiseUnimplemented false 0x32#8 s

/-- R97: base byte 0x34. -/
def execNoEntry_34 (s : State) : Result := raiseUnimplemented false 0x34#8 s

/-- R97: base byte 0x35. -/
def execNoEntry_35 (s : State) : Result := raiseUnimplemented false 0x35#8 s

/-- R97: base byte 0x36. -/
def execNoEntry_36 (s : State) : Result := raiseUnimplemented false 0x36#8 s

/-- R97: base byte 0x37. -/
def execNoEntry_37 (s : State) : Result := raiseUnimplemented false 0x37#8 s

/-- R97: base byte 0x39. -/
def execNoEntry_39 (s : State) : Result := raiseUnimplemented false 0x39#8 s

/-- R97: base byte 0x3A. -/
def execNoEntry_3A (s : State) : Result := raiseUnimplemented false 0x3A#8 s

/-- R97: base byte 0x3F. -/
def execNoEntry_3F (s : State) : Result := raiseUnimplemented false 0x3F#8 s

/-- R97: base byte 0x76. -/
def execNoEntry_76 (s : State) : Result := raiseUnimplemented false 0x76#8 s

/-- R97: base byte 0x88. -/
def execNoEntry_88 (s : State) : Result := raiseUnimplemented false 0x88#8 s

/-- R97: base byte 0x89. -/
def execNoEntry_89 (s : State) : Result := raiseUnimplemented false 0x89#8 s

/-- R97: base byte 0x8A. -/
def execNoEntry_8A (s : State) : Result := raiseUnimplemented false 0x8A#8 s

/-- R97: base byte 0x8B. -/
def execNoEntry_8B (s : State) : Result := raiseUnimplemented false 0x8B#8 s

/-- R97: base byte 0x8C. -/
def execNoEntry_8C (s : State) : Result := raiseUnimplemented false 0x8C#8 s

/-- R97: base byte 0x8D. -/
def execNoEntry_8D (s : State) : Result := raiseUnimplemented false 0x8D#8 s

/-- R97: base byte 0x8E. -/
def execNoEntry_8E (s : State) : Result := raiseUnimplemented false 0x8E#8 s

/-- R97: base byte 0x8F. -/
def execNoEntry_8F (s : State) : Result := raiseUnimplemented false 0x8F#8 s

/-- R97: base byte 0x98. -/
def execNoEntry_98 (s : State) : Result := raiseUnimplemented false 0x98#8 s

/-- R97: base byte 0x99. -/
def execNoEntry_99 (s : State) : Result := raiseUnimplemented false 0x99#8 s

/-- R97: base byte 0x9A. -/
def execNoEntry_9A (s : State) : Result := raiseUnimplemented false 0x9A#8 s

/-- R97: base byte 0x9B. -/
def execNoEntry_9B (s : State) : Result := raiseUnimplemented false 0x9B#8 s

/-- R97: base byte 0x9C. -/
def execNoEntry_9C (s : State) : Result := raiseUnimplemented false 0x9C#8 s

/-- R97: base byte 0x9D. -/
def execNoEntry_9D (s : State) : Result := raiseUnimplemented false 0x9D#8 s

/-- R97: base byte 0x9E. -/
def execNoEntry_9E (s : State) : Result := raiseUnimplemented false 0x9E#8 s

/-- R97: base byte 0x9F. -/
def execNoEntry_9F (s : State) : Result := raiseUnimplemented false 0x9F#8 s

/-- R97: base byte 0xA0. -/
def execNoEntry_A0 (s : State) : Result := raiseUnimplemented false 0xA0#8 s

/-- R97: base byte 0xA1. -/
def execNoEntry_A1 (s : State) : Result := raiseUnimplemented false 0xA1#8 s

/-- R97: base byte 0xA2. -/
def execNoEntry_A2 (s : State) : Result := raiseUnimplemented false 0xA2#8 s

/-- R97: base byte 0xA3. -/
def execNoEntry_A3 (s : State) : Result := raiseUnimplemented false 0xA3#8 s

/-- R97: base byte 0xA4. -/
def execNoEntry_A4 (s : State) : Result := raiseUnimplemented false 0xA4#8 s

/-- R97: base byte 0xA5. -/
def execNoEntry_A5 (s : State) : Result := raiseUnimplemented false 0xA5#8 s

/-- R97: base byte 0xA6. -/
def execNoEntry_A6 (s : State) : Result := raiseUnimplemented false 0xA6#8 s

/-- R97: base byte 0xA7. -/
def execNoEntry_A7 (s : State) : Result := raiseUnimplemented false 0xA7#8 s

/-- R97: base byte 0xA8. -/
def execNoEntry_A8 (s : State) : Result := raiseUnimplemented false 0xA8#8 s

/-- R97: base byte 0xA9. -/
def execNoEntry_A9 (s : State) : Result := raiseUnimplemented false 0xA9#8 s

/-- R97: base byte 0xAA. -/
def execNoEntry_AA (s : State) : Result := raiseUnimplemented false 0xAA#8 s

/-- R97: base byte 0xAB. -/
def execNoEntry_AB (s : State) : Result := raiseUnimplemented false 0xAB#8 s

/-- R97: base byte 0xAC. -/
def execNoEntry_AC (s : State) : Result := raiseUnimplemented false 0xAC#8 s

/-- R97: base byte 0xAD. -/
def execNoEntry_AD (s : State) : Result := raiseUnimplemented false 0xAD#8 s

/-- R97: base byte 0xAE. -/
def execNoEntry_AE (s : State) : Result := raiseUnimplemented false 0xAE#8 s

/-- R97: base byte 0xAF. -/
def execNoEntry_AF (s : State) : Result := raiseUnimplemented false 0xAF#8 s

/-- R97: base byte 0xB0. -/
def execNoEntry_B0 (s : State) : Result := raiseUnimplemented false 0xB0#8 s

/-- R97: base byte 0xB1. -/
def execNoEntry_B1 (s : State) : Result := raiseUnimplemented false 0xB1#8 s

/-- R97: base byte 0xB2. -/
def execNoEntry_B2 (s : State) : Result := raiseUnimplemented false 0xB2#8 s

/-- R97: base byte 0xB3. -/
def execNoEntry_B3 (s : State) : Result := raiseUnimplemented false 0xB3#8 s

/-- R97: base byte 0xB4. -/
def execNoEntry_B4 (s : State) : Result := raiseUnimplemented false 0xB4#8 s

/-- R97: base byte 0xB5. -/
def execNoEntry_B5 (s : State) : Result := raiseUnimplemented false 0xB5#8 s

/-- R97: base byte 0xB6. -/
def execNoEntry_B6 (s : State) : Result := raiseUnimplemented false 0xB6#8 s

/-- R97: base byte 0xB7. -/
def execNoEntry_B7 (s : State) : Result := raiseUnimplemented false 0xB7#8 s

/-- R97: base byte 0xC0. -/
def execNoEntry_C0 (s : State) : Result := raiseUnimplemented false 0xC0#8 s

/-- R97: base byte 0xC2. -/
def execNoEntry_C2 (s : State) : Result := raiseUnimplemented false 0xC2#8 s

/-- R97: base byte 0xC3. -/
def execNoEntry_C3 (s : State) : Result := raiseUnimplemented false 0xC3#8 s

/-- R97: base byte 0xC4. -/
def execNoEntry_C4 (s : State) : Result := raiseUnimplemented false 0xC4#8 s

/-- R97: base byte 0xC7. -/
def execNoEntry_C7 (s : State) : Result := raiseUnimplemented false 0xC7#8 s

/-- R97: base byte 0xC8. -/
def execNoEntry_C8 (s : State) : Result := raiseUnimplemented false 0xC8#8 s

/-- R97: base byte 0xCA. -/
def execNoEntry_CA (s : State) : Result := raiseUnimplemented false 0xCA#8 s

/-- R97: base byte 0xCC. -/
def execNoEntry_CC (s : State) : Result := raiseUnimplemented false 0xCC#8 s

/-- R97: base byte 0xCE. -/
def execNoEntry_CE (s : State) : Result := raiseUnimplemented false 0xCE#8 s

/-- R97: base byte 0xCF. -/
def execNoEntry_CF (s : State) : Result := raiseUnimplemented false 0xCF#8 s

/-- R97: base byte 0xD0. -/
def execNoEntry_D0 (s : State) : Result := raiseUnimplemented false 0xD0#8 s

/-- R97: base byte 0xD2. -/
def execNoEntry_D2 (s : State) : Result := raiseUnimplemented false 0xD2#8 s

/-- R97: base byte 0xD3. -/
def execNoEntry_D3 (s : State) : Result := raiseUnimplemented false 0xD3#8 s

/-- R97: base byte 0xD4. -/
def execNoEntry_D4 (s : State) : Result := raiseUnimplemented false 0xD4#8 s

/-- R97: base byte 0xD7. -/
def execNoEntry_D7 (s : State) : Result := raiseUnimplemented false 0xD7#8 s

/-- R97: base byte 0xD8. -/
def execNoEntry_D8 (s : State) : Result := raiseUnimplemented false 0xD8#8 s

/-- R97: base byte 0xDA. -/
def execNoEntry_DA (s : State) : Result := raiseUnimplemented false 0xDA#8 s

/-- R97: base byte 0xDB. -/
def execNoEntry_DB (s : State) : Result := raiseUnimplemented false 0xDB#8 s

/-- R97: base byte 0xDC. -/
def execNoEntry_DC (s : State) : Result := raiseUnimplemented false 0xDC#8 s

/-- R97: base byte 0xDD. -/
def execNoEntry_DD (s : State) : Result := raiseUnimplemented false 0xDD#8 s

/-- R97: base byte 0xDE. -/
def execNoEntry_DE (s : State) : Result := raiseUnimplemented false 0xDE#8 s

/-- R97: base byte 0xDF. -/
def execNoEntry_DF (s : State) : Result := raiseUnimplemented false 0xDF#8 s

/-- R97: base byte 0xE3. -/
def execNoEntry_E3 (s : State) : Result := raiseUnimplemented false 0xE3#8 s

/-- R97: base byte 0xE4. -/
def execNoEntry_E4 (s : State) : Result := raiseUnimplemented false 0xE4#8 s

/-- R97: base byte 0xE6. -/
def execNoEntry_E6 (s : State) : Result := raiseUnimplemented false 0xE6#8 s

/-- R97: base byte 0xE7. -/
def execNoEntry_E7 (s : State) : Result := raiseUnimplemented false 0xE7#8 s

/-- R97: base byte 0xE8. -/
def execNoEntry_E8 (s : State) : Result := raiseUnimplemented false 0xE8#8 s

/-- R97: base byte 0xE9. -/
def execNoEntry_E9 (s : State) : Result := raiseUnimplemented false 0xE9#8 s

/-- R97: base byte 0xEB. -/
def execNoEntry_EB (s : State) : Result := raiseUnimplemented false 0xEB#8 s

/-- R97: base byte 0xEC. -/
def execNoEntry_EC (s : State) : Result := raiseUnimplemented false 0xEC#8 s

/-- R97: base byte 0xED. -/
def execNoEntry_ED (s : State) : Result := raiseUnimplemented false 0xED#8 s

/-- R97: base byte 0xEE. -/
def execNoEntry_EE (s : State) : Result := raiseUnimplemented false 0xEE#8 s

/-- R97: base byte 0xEF. -/
def execNoEntry_EF (s : State) : Result := raiseUnimplemented false 0xEF#8 s

/-- R97: base byte 0xF4. -/
def execNoEntry_F4 (s : State) : Result := raiseUnimplemented false 0xF4#8 s

/-- R97: base byte 0xF6. -/
def execNoEntry_F6 (s : State) : Result := raiseUnimplemented false 0xF6#8 s

/-- R97: base byte 0xF7. -/
def execNoEntry_F7 (s : State) : Result := raiseUnimplemented false 0xF7#8 s

/-- R97: base byte 0xF8. -/
def execNoEntry_F8 (s : State) : Result := raiseUnimplemented false 0xF8#8 s

/-- R97: base byte 0xF9. -/
def execNoEntry_F9 (s : State) : Result := raiseUnimplemented false 0xF9#8 s

/-- R97: base byte 0xFC. -/
def execNoEntry_FC (s : State) : Result := raiseUnimplemented false 0xFC#8 s

/-- R97: base byte 0xFD. -/
def execNoEntry_FD (s : State) : Result := raiseUnimplemented false 0xFD#8 s

/-- R97: base byte 0xFF. -/
def execNoEntry_FF (s : State) : Result := raiseUnimplemented false 0xFF#8 s

/-- R97: the byte after 0xCB 0x20. -/
def execNoEntry_CB_20 (s : State) : Result := raiseUnimplemented true 0x20#8 s

/-- R97: the byte after 0xCB 0x21. -/
def execNoEntry_CB_21 (s : State) : Result := raiseUnimplemented true 0x21#8 s

/-- R97: the byte after 0xCB 0x22. -/
def execNoEntry_CB_22 (s : State) : Result := raiseUnimplemented true 0x22#8 s

/-- R97: the byte after 0xCB 0x23. -/
def execNoEntry_CB_23 (s : State) : Result := raiseUnimplemented true 0x23#8 s

/-- R97: the byte after 0xCB 0x24. -/
def execNoEntry_CB_24 (s : State) : Result := raiseUnimplemented true 0x24#8 s

/-- R97: the byte after 0xCB 0x25. -/
def execNoEntry_CB_25 (s : State) : Result := raiseUnimplemented true 0x25#8 s

/-- R97: the byte after 0xCB 0x26. -/
def execNoEntry_CB_26 (s : State) : Result := raiseUnimplemented true 0x26#8 s

/-- R97: the byte after 0xCB 0x27. -/
def execNoEntry_CB_27 (s : State) : Result := raiseUnimplemented true 0x27#8 s

/-- R97: the byte after 0xCB 0x28. -/
def execNoEntry_CB_28 (s : State) : Result := raiseUnimplemented true 0x28#8 s

/-- R97: the byte after 0xCB 0x29. -/
def execNoEntry_CB_29 (s : State) : Result := raiseUnimplemented true 0x29#8 s

/-- R97: the byte after 0xCB 0x2A. -/
def execNoEntry_CB_2A (s : State) : Result := raiseUnimplemented true 0x2A#8 s

/-- R97: the byte after 0xCB 0x2B. -/
def execNoEntry_CB_2B (s : State) : Result := raiseUnimplemented true 0x2B#8 s

/-- R97: the byte after 0xCB 0x2C. -/
def execNoEntry_CB_2C (s : State) : Result := raiseUnimplemented true 0x2C#8 s

/-- R97: the byte after 0xCB 0x2D. -/
def execNoEntry_CB_2D (s : State) : Result := raiseUnimplemented true 0x2D#8 s

/-- R97: the byte after 0xCB 0x2E. -/
def execNoEntry_CB_2E (s : State) : Result := raiseUnimplemented true 0x2E#8 s

/-- R97: the byte after 0xCB 0x2F. -/
def execNoEntry_CB_2F (s : State) : Result := raiseUnimplemented true 0x2F#8 s

/-- R97: the byte after 0xCB 0x30. -/
def execNoEntry_CB_30 (s : State) : Result := raiseUnimplemented true 0x30#8 s

/-- R97: the byte after 0xCB 0x31. -/
def execNoEntry_CB_31 (s : State) : Result := raiseUnimplemented true 0x31#8 s

/-- R97: the byte after 0xCB 0x32. -/
def execNoEntry_CB_32 (s : State) : Result := raiseUnimplemented true 0x32#8 s

/-- R97: the byte after 0xCB 0x33. -/
def execNoEntry_CB_33 (s : State) : Result := raiseUnimplemented true 0x33#8 s

/-- R97: the byte after 0xCB 0x34. -/
def execNoEntry_CB_34 (s : State) : Result := raiseUnimplemented true 0x34#8 s

/-- R97: the byte after 0xCB 0x35. -/
def execNoEntry_CB_35 (s : State) : Result := raiseUnimplemented true 0x35#8 s

/-- R97: the byte after 0xCB 0x36. -/
def execNoEntry_CB_36 (s : State) : Result := raiseUnimplemented true 0x36#8 s

/-- R97: the byte after 0xCB 0x37. -/
def execNoEntry_CB_37 (s : State) : Result := raiseUnimplemented true 0x37#8 s

/-- R97: the byte after 0xCB 0x38. -/
def execNoEntry_CB_38 (s : State) : Result := raiseUnimplemented true 0x38#8 s

/-- R97: the byte after 0xCB 0x39. -/
def execNoEntry_CB_39 (s : State) : Result := raiseUnimplemented true 0x39#8 s

/-- R97: the byte after 0xCB 0x3A. -/
def execNoEntry_CB_3A (s : State) : Result := raiseUnimplemented true 0x3A#8 s

/-- R97: the byte after 0xCB 0x3B. -/
def execNoEntry_CB_3B (s : State) : Result := raiseUnimplemented true 0x3B#8 s

/-- R97: the byte after 0xCB 0x3C. -/
def execNoEntry_CB_3C (s : State) : Result := raiseUnimplemented true 0x3C#8 s

/-- R97: the byte after 0xCB 0x3D. -/
def execNoEntry_CB_3D (s : State) : Result := raiseUnimplemented true 0x3D#8 s

/-- R97: the byte after 0xCB 0x3E. -/
def execNoEntry_CB_3E (s : State) : Result := raiseUnimplemented true 0x3E#8 s

/-- R97: the byte after 0xCB 0x3F. -/
def execNoEntry_CB_3F (s : State) : Result := raiseUnimplemented true 0x3F#8 s

/-- R97: the byte after 0xCB 0x80. -/
def execNoEntry_CB_80 (s : State) : Result := raiseUnimplemented true 0x80#8 s

/-- R97: the byte after 0xCB 0x81. -/
def execNoEntry_CB_81 (s : State) : Result := raiseUnimplemented true 0x81#8 s

/-- R97: the byte after 0xCB 0x82. -/
def execNoEntry_CB_82 (s : State) : Result := raiseUnimplemented true 0x82#8 s

/-- R97: the byte after 0xCB 0x83. -/
def execNoEntry_CB_83 (s : State) : Result := raiseUnimplemented true 0x83#8 s

/-- R97: the byte after 0xCB 0x84. -/
def execNoEntry_CB_84 (s : State) : Result := raiseUnimplemented true 0x84#8 s

/-- R97: the byte after 0xCB 0x85. -/
def execNoEntry_CB_85 (s : State) : Result := raiseUnimplemented true 0x85#8 s

/-- R97: the byte after 0xCB 0x86. -/
def execNoEntry_CB_86 (s : State) : Result := raiseUnimplemented true 0x86#8 s

/-- R97: the byte after 0xCB 0x87. -/
def execNoEntry_CB_87 (s : State) : Result := raiseUnimplemented true 0x87#8 s

/-- R97: the byte after 0xCB 0x88. -/
def execNoEntry_CB_88 (s : State) : Result := raiseUnimplemented true 0x88#8 s

/-- R97: the byte after 0xCB 0x89. -/
def execNoEntry_CB_89 (s : State) : Result := raiseUnimplemented true 0x89#8 s

/-- R97: the byte after 0xCB 0x8A. -/
def execNoEntry_CB_8A (s : State) : Result := raiseUnimplemented true 0x8A#8 s

/-- R97: the byte after 0xCB 0x8B. -/
def execNoEntry_CB_8B (s : State) : Result := raiseUnimplemented true 0x8B#8 s

/-- R97: the byte after 0xCB 0x8C. -/
def execNoEntry_CB_8C (s : State) : Result := raiseUnimplemented true 0x8C#8 s

/-- R97: the byte after 0xCB 0x8D. -/
def execNoEntry_CB_8D (s : State) : Result := raiseUnimplemented true 0x8D#8 s

/-- R97: the byte after 0xCB 0x8E. -/
def execNoEntry_CB_8E (s : State) : Result := raiseUnimplemented true 0x8E#8 s

/-- R97: the byte after 0xCB 0x8F. -/
def execNoEntry_CB_8F (s : State) : Result := raiseUnimplemented true 0x8F#8 s

/-- R97: the byte after 0xCB 0x90. -/
def execNoEntry_CB_90 (s : State) : Result := raiseUnimplemented true 0x90#8 s

/-- R97: the byte after 0xCB 0x91. -/
def execNoEntry_CB_91 (s : State) : Result := raiseUnimplemented true 0x91#8 s

/-- R97: the byte after 0xCB 0x92. -/
def execNoEntry_CB_92 (s : State) : Result := raiseUnimplemented true 0x92#8 s

/-- R97: the byte after 0xCB 0x93. -/
def execNoEntry_CB_93 (s : State) : Result := raiseUnimplemented true 0x93#8 s

/-- R97: the byte after 0xCB 0x94. -/
def execNoEntry_CB_94 (s : State) : Result := raiseUnimplemented true 0x94#8 s

/-- R97: the byte after 0xCB 0x95. -/
def execNoEntry_CB_95 (s : State) : Result := raiseUnimplemented true 0x95#8 s

/-- R97: the byte after 0xCB 0x96. -/
def execNoEntry_CB_96 (s : State) : Result := raiseUnimplemented true 0x96#8 s

/-- R97: the byte after 0xCB 0x97. -/
def execNoEntry_CB_97 (s : State) : Result := raiseUnimplemented true 0x97#8 s

/-- R97: the byte after 0xCB 0x98. -/
def execNoEntry_CB_98 (s : State) : Result := raiseUnimplemented true 0x98#8 s

/-- R97: the byte after 0xCB 0x99. -/
def execNoEntry_CB_99 (s : State) : Result := raiseUnimplemented true 0x99#8 s

/-- R97: the byte after 0xCB 0x9A. -/
def execNoEntry_CB_9A (s : State) : Result := raiseUnimplemented true 0x9A#8 s

/-- R97: the byte after 0xCB 0x9B. -/
def execNoEntry_CB_9B (s : State) : Result := raiseUnimplemented true 0x9B#8 s

/-- R97: the byte after 0xCB 0x9C. -/
def execNoEntry_CB_9C (s : State) : Result := raiseUnimplemented true 0x9C#8 s

/-- R97: the byte after 0xCB 0x9D. -/
def execNoEntry_CB_9D (s : State) : Result := raiseUnimplemented true 0x9D#8 s

/-- R97: the byte after 0xCB 0x9E. -/
def execNoEntry_CB_9E (s : State) : Result := raiseUnimplemented true 0x9E#8 s

/-- R97: the byte after 0xCB 0x9F. -/
def execNoEntry_CB_9F (s : State) : Result := raiseUnimplemented true 0x9F#8 s

/-- R97: the byte after 0xCB 0xA0. -/
def execNoEntry_CB_A0 (s : State) : Result := raiseUnimplemented true 0xA0#8 s

/-- R97: the byte after 0xCB 0xA1. -/
def execNoEntry_CB_A1 (s : State) : Result := raiseUnimplemented true 0xA1#8 s

/-- R97: the byte after 0xCB 0xA2. -/
def execNoEntry_CB_A2 (s : State) : Result := raiseUnimplemented true 0xA2#8 s

/-- R97: the byte after 0xCB 0xA3. -/
def execNoEntry_CB_A3 (s : State) : Result := raiseUnimplemented true 0xA3#8 s

/-- R97: the byte after 0xCB 0xA4. -/
def execNoEntry_CB_A4 (s : State) : Result := raiseUnimplemented true 0xA4#8 s

/-- R97: the byte after 0xCB 0xA5. -/
def execNoEntry_CB_A5 (s : State) : Result := raiseUnimplemented true 0xA5#8 s

/-- R97: the byte after 0xCB 0xA6. -/
def execNoEntry_CB_A6 (s : State) : Result := raiseUnimplemented true 0xA6#8 s

/-- R97: the byte after 0xCB 0xA7. -/
def execNoEntry_CB_A7 (s : State) : Result := raiseUnimplemented true 0xA7#8 s

/-- R97: the byte after 0xCB 0xA8. -/
def execNoEntry_CB_A8 (s : State) : Result := raiseUnimplemented true 0xA8#8 s

/-- R97: the byte after 0xCB 0xA9. -/
def execNoEntry_CB_A9 (s : State) : Result := raiseUnimplemented true 0xA9#8 s

/-- R97: the byte after 0xCB 0xAA. -/
def execNoEntry_CB_AA (s : State) : Result := raiseUnimplemented true 0xAA#8 s

/-- R97: the byte after 0xCB 0xAB. -/
def execNoEntry_CB_AB (s : State) : Result := raiseUnimplemented true 0xAB#8 s

/-- R97: the byte after 0xCB 0xAC. -/
def execNoEntry_CB_AC (s : State) : Result := raiseUnimplemented true 0xAC#8 s

/-- R97: the byte after 0xCB 0xAD. -/
def execNoEntry_CB_AD (s : State) : Result := raiseUnimplemented true 0xAD#8 s

/-- R97: the byte after 0xCB 0xAE. -/
def execNoEntry_CB_AE (s : State) : Result := raiseUnimplemented true 0xAE#8 s

/-- R97: the byte after 0xCB 0xAF. -/
def execNoEntry_CB_AF (s : State) : Result := raiseUnimplemented true 0xAF#8 s

/-- R97: the byte after 0xCB 0xB0. -/
def execNoEntry_CB_B0 (s : State) : Result := raiseUnimplemented true 0xB0#8 s

/-- R97: the byte after 0xCB 0xB1. -/
def execNoEntry_CB_B1 (s : State) : Result := raiseUnimplemented true 0xB1#8 s

/-- R97: the byte after 0xCB 0xB2. -/
def execNoEntry_CB_B2 (s : State) : Result := raiseUnimplemented true 0xB2#8 s

/-- R97: the byte after 0xCB 0xB3. -/
def execNoEntry_CB_B3 (s : State) : Result := raiseUnimplemented true 0xB3#8 s

/-- R97: the byte after 0xCB 0xB4. -/
def execNoEntry_CB_B4 (s : State) : Result := raiseUnimplemented true 0xB4#8 s

/-- R97: the byte after 0xCB 0xB5. -/
def execNoEntry_CB_B5 (s : State) : Result := raiseUnimplemented true 0xB5#8 s

/-- R97: the byte after 0xCB 0xB6. -/
def execNoEntry_CB_B6 (s : State) : Result := raiseUnimplemented true 0xB6#8 s

/-- R97: the byte after 0xCB 0xB7. -/
def execNoEntry_CB_B7 (s : State) : Result := raiseUnimplemented true 0xB7#8 s

/-- R97: the byte after 0xCB 0xB8. -/
def execNoEntry_CB_B8 (s : State) : Result := raiseUnimplemented true 0xB8#8 s

/-- R97: the byte after 0xCB 0xB9. -/
def execNoEntry_CB_B9 (s : State) : Result := raiseUnimplemented true 0xB9#8 s

/-- R97: the byte after 0xCB 0xBA. -/
def execNoEntry_CB_BA (s : State) : Result := raiseUnimplemented true 0xBA#8 s

/-- R97: the byte after 0xCB 0xBB. -/
def execNoEntry_CB_BB (s : State) : Result := raiseUnimplemented true 0xBB#8 s

/-- R97: the byte after 0xCB 0xBC. -/
def execNoEntry_CB_BC (s : State) : Result := raiseUnimplemented true 0xBC#8 s

/-- R97: the byte after 0xCB 0xBD. -/
def execNoEntry_CB_BD (s : State) : Result := raiseUnimplemented true 0xBD#8 s

/-- R97: the byte after 0xCB 0xBE. -/
def execNoEntry_CB_BE (s : State) : Result := raiseUnimplemented true 0xBE#8 s

/-- R97: the byte after 0xCB 0xBF. -/
def execNoEntry_CB_BF (s : State) : Result := raiseUnimplemented true 0xBF#8 s

/-- R97: the byte after 0xCB 0xC0. -/
def execNoEntry_CB_C0 (s : State) : Result := raiseUnimplemented true 0xC0#8 s

/-- R97: the byte after 0xCB 0xC1. -/
def execNoEntry_CB_C1 (s : State) : Result := raiseUnimplemented true 0xC1#8 s

/-- R97: the byte after 0xCB 0xC2. -/
def execNoEntry_CB_C2 (s : State) : Result := raiseUnimplemented true 0xC2#8 s

/-- R97: the byte after 0xCB 0xC3. -/
def execNoEntry_CB_C3 (s : State) : Result := raiseUnimplemented true 0xC3#8 s

/-- R97: the byte after 0xCB 0xC4. -/
def execNoEntry_CB_C4 (s : State) : Result := raiseUnimplemented true 0xC4#8 s

/-- R97: the byte after 0xCB 0xC5. -/
def execNoEntry_CB_C5 (s : State) : Result := raiseUnimplemented true 0xC5#8 s

/-- R97: the byte after 0xCB 0xC6. -/
def execNoEntry_CB_C6 (s : State) : Result := raiseUnimplemented true 0xC6#8 s

/-- R97: the byte after 0xCB 0xC7. -/
def execNoEntry_CB_C7 (s : State) : Result := raiseUnimplemented true 0xC7#8 s

/-- R97: the byte after 0xCB 0xC8. -/
def execNoEntry_CB_C8 (s : State) : Result := raiseUnimplemented true 0xC8#8 s

/-- R97: the byte after 0xCB 0xC9. -/
def execNoEntry_CB_C9 (s : State) : Result := raiseUnimplemented true 0xC9#8 s

/-- R97: the byte after 0xCB 0xCA. -/
def execNoEntry_CB_CA (s : State) : Result := raiseUnimplemented true 0xCA#8 s

/-- R97: the byte after 0xCB 0xCB. -/
def execNoEntry_CB_CB (s : State) : Result := raiseUnimplemented true 0xCB#8 s

/-- R97: the byte after 0xCB 0xCC. -/
def execNoEntry_CB_CC (s : State) : Result := raiseUnimplemented true 0xCC#8 s

/-- R97: the byte after 0xCB 0xCD. -/
def execNoEntry_CB_CD (s : State) : Result := raiseUnimplemented true 0xCD#8 s

/-- R97: the byte after 0xCB 0xCE. -/
def execNoEntry_CB_CE (s : State) : Result := raiseUnimplemented true 0xCE#8 s

/-- R97: the byte after 0xCB 0xCF. -/
def execNoEntry_CB_CF (s : State) : Result := raiseUnimplemented true 0xCF#8 s

/-- R97: the byte after 0xCB 0xD0. -/
def execNoEntry_CB_D0 (s : State) : Result := raiseUnimplemented true 0xD0#8 s

/-- R97: the byte after 0xCB 0xD1. -/
def execNoEntry_CB_D1 (s : State) : Result := raiseUnimplemented true 0xD1#8 s

/-- R97: the byte after 0xCB 0xD2. -/
def execNoEntry_CB_D2 (s : State) : Result := raiseUnimplemented true 0xD2#8 s

/-- R97: the byte after 0xCB 0xD3. -/
def execNoEntry_CB_D3 (s : State) : Result := raiseUnimplemented true 0xD3#8 s

/-- R97: the byte after 0xCB 0xD4. -/
def execNoEntry_CB_D4 (s : State) : Result := raiseUnimplemented true 0xD4#8 s

/-- R97: the byte after 0xCB 0xD5. -/
def execNoEntry_CB_D5 (s : State) : Result := raiseUnimplemented true 0xD5#8 s

/-- R97: the byte after 0xCB 0xD6. -/
def execNoEntry_CB_D6 (s : State) : Result := raiseUnimplemented true 0xD6#8 s

/-- R97: the byte after 0xCB 0xD7. -/
def execNoEntry_CB_D7 (s : State) : Result := raiseUnimplemented true 0xD7#8 s

/-- R97: the byte after 0xCB 0xD8. -/
def execNoEntry_CB_D8 (s : State) : Result := raiseUnimplemented true 0xD8#8 s

/-- R97: the byte after 0xCB 0xD9. -/
def execNoEntry_CB_D9 (s : State) : Result := raiseUnimplemented true 0xD9#8 s

/-- R97: the byte after 0xCB 0xDA. -/
def execNoEntry_CB_DA (s : State) : Result := raiseUnimplemented true 0xDA#8 s

/-- R97: the byte after 0xCB 0xDB. -/
def execNoEntry_CB_DB (s : State) : Result := raiseUnimplemented true 0xDB#8 s

/-- R97: the byte after 0xCB 0xDC. -/
def execNoEntry_CB_DC (s : State) : Result := raiseUnimplemented true 0xDC#8 s

/-- R97: the byte after 0xCB 0xDD. -/
def execNoEntry_CB_DD (s : State) : Result := raiseUnimplemented true 0xDD#8 s

/-- R97: the byte after 0xCB 0xDE. -/
def execNoEntry_CB_DE (s : State) : Result := raiseUnimplemented true 0xDE#8 s

/-- R97: the byte after 0xCB 0xDF. -/
def execNoEntry_CB_DF (s : State) : Result := raiseUnimplemented true 0xDF#8 s

/-- R97: the byte after 0xCB 0xE0. -/
def execNoEntry_CB_E0 (s : State) : Result := raiseUnimplemented true 0xE0#8 s

/-- R97: the byte after 0xCB 0xE1. -/
def execNoEntry_CB_E1 (s : State) : Result := raiseUnimplemented true 0xE1#8 s

/-- R97: the byte after 0xCB 0xE2. -/
def execNoEntry_CB_E2 (s : State) : Result := raiseUnimplemented true 0xE2#8 s

/-- R97: the byte after 0xCB 0xE3. -/
def execNoEntry_CB_E3 (s : State) : Result := raiseUnimplemented true 0xE3#8 s

/-- R97: the byte after 0xCB 0xE4. -/
def execNoEntry_CB_E4 (s : State) : Result := raiseUnimplemented true 0xE4#8 s

/-- R97: the byte after 0xCB 0xE5. -/
def execNoEntry_CB_E5 (s : State) : Result := raiseUnimplemented true 0xE5#8 s

/-- R97: the byte after 0xCB 0xE6. -/
def execNoEntry_CB_E6 (s : State) : Result := raiseUnimplemented true 0xE6#8 s

/-- R97: the byte after 0xCB 0xE7. -/
def execNoEntry_CB_E7 (s : State) : Result := raiseUnimplemented true 0xE7#8 s

/-- R97: the byte after 0xCB 0xE8. -/
def execNoEntry_CB_E8 (s : State) : Result := raiseUnimplemented true 0xE8#8 s

/-- R97: the byte after 0xCB 0xE9. -/
def execNoEntry_CB_E9 (s : State) : Result := raiseUnimplemented true 0xE9#8 s

/-- R97: the byte after 0xCB 0xEA. -/
def execNoEntry_CB_EA (s : State) : Result := raiseUnimplemented true 0xEA#8 s

/-- R97: the byte after 0xCB 0xEB. -/
def execNoEntry_CB_EB (s : State) : Result := raiseUnimplemented true 0xEB#8 s

/-- R97: the byte after 0xCB 0xEC. -/
def execNoEntry_CB_EC (s : State) : Result := raiseUnimplemented true 0xEC#8 s

/-- R97: the byte after 0xCB 0xED. -/
def execNoEntry_CB_ED (s : State) : Result := raiseUnimplemented true 0xED#8 s

/-- R97: the byte after 0xCB 0xEE. -/
def execNoEntry_CB_EE (s : State) : Result := raiseUnimplemented true 0xEE#8 s

/-- R97: the byte after 0xCB 0xEF. -/
def execNoEntry_CB_EF (s : State) : Result := raiseUnimplemented true 0xEF#8 s

/-- R97: the byte after 0xCB 0xF0. -/
def execNoEntry_CB_F0 (s : State) : Result := raiseUnimplemented true 0xF0#8 s

/-- R97: the byte after 0xCB 0xF1. -/
def execNoEntry_CB_F1 (s : State) : Result := raiseUnimplemented true 0xF1#8 s

/-- R97: the byte after 0xCB 0xF2. -/
def execNoEntry_CB_F2 (s : State) : Result := raiseUnimplemented true 0xF2#8 s

/-- R97: the byte after 0xCB 0xF3. -/
def execNoEntry_CB_F3 (s : State) : Result := raiseUnimplemented true 0xF3#8 s

/-- R97: the byte after 0xCB 0xF4. -/
def execNoEntry_CB_F4 (s : State) : Result := raiseUnimplemented true 0xF4#8 s

/-- R97: the byte after 0xCB 0xF5. -/
def execNoEntry_CB_F5 (s : State) : Result := raiseUnimplemented true 0xF5#8 s

/-- R97: the byte after 0xCB 0xF6. -/
def execNoEntry_CB_F6 (s : State) : Result := raiseUnimplemented true 0xF6#8 s

/-- R97: the byte after 0xCB 0xF7. -/
def execNoEntry_CB_F7 (s : State) : Result := raiseUnimplemented true 0xF7#8 s

/-- R97: the byte after 0xCB 0xF8. -/
def execNoEntry_CB_F8 (s : State) : Result := raiseUnimplemented true 0xF8#8 s

/-- R97: the byte after 0xCB 0xF9. -/
def execNoEntry_CB_F9 (s : State) : Result := raiseUnimplemented true 0xF9#8 s

/-- R97: the byte after 0xCB 0xFA. -/
def execNoEntry_CB_FA (s : State) : Result := raiseUnimplemented true 0xFA#8 s

/-- R97: the byte after 0xCB 0xFB. -/
def execNoEntry_CB_FB (s : State) : Result := raiseUnimplemented true 0xFB#8 s

/-- R97: the byte after 0xCB 0xFC. -/
def execNoEntry_CB_FC (s : State) : Result := raiseUnimplemented true 0xFC#8 s

/-- R97: the byte after 0xCB 0xFD. -/
def execNoEntry_CB_FD (s : State) : Result := raiseUnimplemented true 0xFD#8 s

/-- R97: the byte after 0xCB 0xFE. -/
def execNoEntry_CB_FE (s : State) : Result := raiseUnimplemented true 0xFE#8 s

/-- R97: the byte after 0xCB 0xFF. -/
def execNoEntry_CB_FF (s : State) : Result := raiseUnimplemented true 0xFF#8 s

end Sys2Proof.Machine
end

