-- ==== Sys2Proof/Machine/Stack.lean ====
section
/-! DEFINITION. Call, return, interrupt return, push, pop (47_call_ret_stack.md, R180 to R184). -/

namespace Sys2Proof.Machine

/-- `CALL u16` (R180): PC, past the operand bytes, is the return address. -/
def callAbs (u16 : Word) (s : State) (P : Params := Params.default) : Result :=
  complete (P.cost (.call u16)) { s.push16 s.pc P with pc := u16 }

/-- `RET` (R181). -/
def returnSub (s : State) (P : Params := Params.default) : Result :=
  let w := s.pop16 P
  complete (P.cost .ret) { w.2 with pc := w.1 }

/-- `RETI` (R182). -/
def returnIrq (s : State) (P : Params := Params.default) : Result :=
  complete (P.cost .reti) (s.returnFromInterrupt P)

/-- `PUSH rr` (R183). -/
def pushPair (p : Pair) (s : State) (P : Params := Params.default) : Result :=
  complete (P.cost (.push p)) (s.push16 (s.pair p) P)

/-- `POP rr` (R184). -/
def popPair (p : Pair) (s : State) (P : Params := Params.default) : Result :=
  let w := s.pop16 P
  complete (P.cost (.pop p)) (w.2.setPair p w.1)

/-! ## The meanings, one per row of the table -/

/-- R180: `CALL u16`. -/
def execCall_u16 (u16 : Word) (s : State) : Result := callAbs u16 s

/-- R181: `RET`. -/
def execRet (s : State) : Result := returnSub s

/-- R182: `RETI`. -/
def execReti (s : State) : Result := returnIrq s

/-- R183: `PUSH BC`. -/
def execPush_BC (s : State) : Result := pushPair .bc s

/-- R183: `PUSH DE`. -/
def execPush_DE (s : State) : Result := pushPair .de s

/-- R183: `PUSH HL`. -/
def execPush_HL (s : State) : Result := pushPair .hl s

/-- R183: `PUSH AF`. -/
def execPush_AF (s : State) : Result := pushPair .af s

/-- R184: `POP BC`. -/
def execPop_BC (s : State) : Result := popPair .bc s

/-- R184: `POP DE`. -/
def execPop_DE (s : State) : Result := popPair .de s

/-- R184: `POP HL`. -/
def execPop_HL (s : State) : Result := popPair .hl s

/-- R184: `POP AF`. -/
def execPop_AF (s : State) : Result := popPair .af s

end Sys2Proof.Machine
end

