-- ==== Sys2Proof/Machine/Dispatch.lean ====
section
/-! DEFINITION. One arm per constructor of Instr: the execute phase of a step (R14, R230 phase 2). -/

namespace Sys2Proof.Machine

def exec (i : Instr) (s : State) : Host.Outcome State Fault Refusal :=
  match i with
  | .noEntry_00 => Sys2Proof.Machine.execNoEntry_00 s
  | .ld_BC_d16 d16 => Sys2Proof.Machine.execLd_BC_d16 d16 s
  | .ld_mBC_A => Sys2Proof.Machine.execLd_mBC_A s
  | .inc_BC => Sys2Proof.Machine.execInc_BC s
  | .inc_B => Sys2Proof.Machine.execInc_B s
  | .dec_B => Sys2Proof.Machine.execDec_B s
  | .ld_B_d8 d8 => Sys2Proof.Machine.execLd_B_d8 d8 s
  | .noEntry_07 => Sys2Proof.Machine.execNoEntry_07 s
  | .noEntry_08 => Sys2Proof.Machine.execNoEntry_08 s
  | .noEntry_09 => Sys2Proof.Machine.execNoEntry_09 s
  | .ld_A_mBC => Sys2Proof.Machine.execLd_A_mBC s
  | .dec_BC => Sys2Proof.Machine.execDec_BC s
  | .inc_C => Sys2Proof.Machine.execInc_C s
  | .dec_C => Sys2Proof.Machine.execDec_C s
  | .ld_C_d8 d8 => Sys2Proof.Machine.execLd_C_d8 d8 s
  | .noEntry_0F => Sys2Proof.Machine.execNoEntry_0F s
  | .noEntry_10 => Sys2Proof.Machine.execNoEntry_10 s
  | .ld_DE_d16 d16 => Sys2Proof.Machine.execLd_DE_d16 d16 s
  | .ld_mDE_A => Sys2Proof.Machine.execLd_mDE_A s
  | .inc_DE => Sys2Proof.Machine.execInc_DE s
  | .inc_D => Sys2Proof.Machine.execInc_D s
  | .dec_D => Sys2Proof.Machine.execDec_D s
  | .ld_D_d8 d8 => Sys2Proof.Machine.execLd_D_d8 d8 s
  | .rla => Sys2Proof.Machine.execRla s
  | .jr_i8 i8 => Sys2Proof.Machine.execJr_i8 i8 s
  | .noEntry_19 => Sys2Proof.Machine.execNoEntry_19 s
  | .ld_A_mDE => Sys2Proof.Machine.execLd_A_mDE s
  | .dec_DE => Sys2Proof.Machine.execDec_DE s
  | .inc_E => Sys2Proof.Machine.execInc_E s
  | .dec_E => Sys2Proof.Machine.execDec_E s
  | .ld_E_d8 d8 => Sys2Proof.Machine.execLd_E_d8 d8 s
  | .rra => Sys2Proof.Machine.execRra s
  | .jr_NZ_i8 i8 => Sys2Proof.Machine.execJr_NZ_i8 i8 s
  | .ld_HL_d16 d16 => Sys2Proof.Machine.execLd_HL_d16 d16 s
  | .noEntry_22 => Sys2Proof.Machine.execNoEntry_22 s
  | .inc_HL => Sys2Proof.Machine.execInc_HL s
  | .inc_H => Sys2Proof.Machine.execInc_H s
  | .dec_H => Sys2Proof.Machine.execDec_H s
  | .ld_H_d8 d8 => Sys2Proof.Machine.execLd_H_d8 d8 s
  | .noEntry_27 => Sys2Proof.Machine.execNoEntry_27 s
  | .jr_Z_i8 i8 => Sys2Proof.Machine.execJr_Z_i8 i8 s
  | .noEntry_29 => Sys2Proof.Machine.execNoEntry_29 s
  | .noEntry_2A => Sys2Proof.Machine.execNoEntry_2A s
  | .dec_HL => Sys2Proof.Machine.execDec_HL s
  | .inc_L => Sys2Proof.Machine.execInc_L s
  | .dec_L => Sys2Proof.Machine.execDec_L s
  | .ld_L_d8 d8 => Sys2Proof.Machine.execLd_L_d8 d8 s
  | .noEntry_2F => Sys2Proof.Machine.execNoEntry_2F s
  | .jr_NC_i8 i8 => Sys2Proof.Machine.execJr_NC_i8 i8 s
  | .ld_SP_d16 d16 => Sys2Proof.Machine.execLd_SP_d16 d16 s
  | .noEntry_32 => Sys2Proof.Machine.execNoEntry_32 s
  | .inc_SP => Sys2Proof.Machine.execInc_SP s
  | .noEntry_34 => Sys2Proof.Machine.execNoEntry_34 s
  | .noEntry_35 => Sys2Proof.Machine.execNoEntry_35 s
  | .noEntry_36 => Sys2Proof.Machine.execNoEntry_36 s
  | .noEntry_37 => Sys2Proof.Machine.execNoEntry_37 s
  | .jr_C_i8 i8 => Sys2Proof.Machine.execJr_C_i8 i8 s
  | .noEntry_39 => Sys2Proof.Machine.execNoEntry_39 s
  | .noEntry_3A => Sys2Proof.Machine.execNoEntry_3A s
  | .dec_SP => Sys2Proof.Machine.execDec_SP s
  | .inc_A => Sys2Proof.Machine.execInc_A s
  | .dec_A => Sys2Proof.Machine.execDec_A s
  | .ld_A_d8 d8 => Sys2Proof.Machine.execLd_A_d8 d8 s
  | .noEntry_3F => Sys2Proof.Machine.execNoEntry_3F s
  | .ld_B_B => Sys2Proof.Machine.execLd_B_B s
  | .ld_B_C => Sys2Proof.Machine.execLd_B_C s
  | .ld_B_D => Sys2Proof.Machine.execLd_B_D s
  | .ld_B_E => Sys2Proof.Machine.execLd_B_E s
  | .ld_B_H => Sys2Proof.Machine.execLd_B_H s
  | .ld_B_L => Sys2Proof.Machine.execLd_B_L s
  | .ld_B_mHL => Sys2Proof.Machine.execLd_B_mHL s
  | .ld_B_A => Sys2Proof.Machine.execLd_B_A s
  | .ld_C_B => Sys2Proof.Machine.execLd_C_B s
  | .ld_C_C => Sys2Proof.Machine.execLd_C_C s
  | .ld_C_D => Sys2Proof.Machine.execLd_C_D s
  | .ld_C_E => Sys2Proof.Machine.execLd_C_E s
  | .ld_C_H => Sys2Proof.Machine.execLd_C_H s
  | .ld_C_L => Sys2Proof.Machine.execLd_C_L s
  | .ld_C_mHL => Sys2Proof.Machine.execLd_C_mHL s
  | .ld_C_A => Sys2Proof.Machine.execLd_C_A s
  | .ld_D_B => Sys2Proof.Machine.execLd_D_B s
  | .ld_D_C => Sys2Proof.Machine.execLd_D_C s
  | .ld_D_D => Sys2Proof.Machine.execLd_D_D s
  | .ld_D_E => Sys2Proof.Machine.execLd_D_E s
  | .ld_D_H => Sys2Proof.Machine.execLd_D_H s
  | .ld_D_L => Sys2Proof.Machine.execLd_D_L s
  | .ld_D_mHL => Sys2Proof.Machine.execLd_D_mHL s
  | .ld_D_A => Sys2Proof.Machine.execLd_D_A s
  | .ld_E_B => Sys2Proof.Machine.execLd_E_B s
  | .ld_E_C => Sys2Proof.Machine.execLd_E_C s
  | .ld_E_D => Sys2Proof.Machine.execLd_E_D s
  | .ld_E_E => Sys2Proof.Machine.execLd_E_E s
  | .ld_E_H => Sys2Proof.Machine.execLd_E_H s
  | .ld_E_L => Sys2Proof.Machine.execLd_E_L s
  | .ld_E_mHL => Sys2Proof.Machine.execLd_E_mHL s
  | .ld_E_A => Sys2Proof.Machine.execLd_E_A s
  | .ld_H_B => Sys2Proof.Machine.execLd_H_B s
  | .ld_H_C => Sys2Proof.Machine.execLd_H_C s
  | .ld_H_D => Sys2Proof.Machine.execLd_H_D s
  | .ld_H_E => Sys2Proof.Machine.execLd_H_E s
  | .ld_H_H => Sys2Proof.Machine.execLd_H_H s
  | .ld_H_L => Sys2Proof.Machine.execLd_H_L s
  | .ld_H_mHL => Sys2Proof.Machine.execLd_H_mHL s
  | .ld_H_A => Sys2Proof.Machine.execLd_H_A s
  | .ld_L_B => Sys2Proof.Machine.execLd_L_B s
  | .ld_L_C => Sys2Proof.Machine.execLd_L_C s
  | .ld_L_D => Sys2Proof.Machine.execLd_L_D s
  | .ld_L_E => Sys2Proof.Machine.execLd_L_E s
  | .ld_L_H => Sys2Proof.Machine.execLd_L_H s
  | .ld_L_L => Sys2Proof.Machine.execLd_L_L s
  | .ld_L_mHL => Sys2Proof.Machine.execLd_L_mHL s
  | .ld_L_A => Sys2Proof.Machine.execLd_L_A s
  | .ld_mHL_B => Sys2Proof.Machine.execLd_mHL_B s
  | .ld_mHL_C => Sys2Proof.Machine.execLd_mHL_C s
  | .ld_mHL_D => Sys2Proof.Machine.execLd_mHL_D s
  | .ld_mHL_E => Sys2Proof.Machine.execLd_mHL_E s
  | .ld_mHL_H => Sys2Proof.Machine.execLd_mHL_H s
  | .ld_mHL_L => Sys2Proof.Machine.execLd_mHL_L s
  | .noEntry_76 => Sys2Proof.Machine.execNoEntry_76 s
  | .ld_mHL_A => Sys2Proof.Machine.execLd_mHL_A s
  | .ld_A_B => Sys2Proof.Machine.execLd_A_B s
  | .ld_A_C => Sys2Proof.Machine.execLd_A_C s
  | .ld_A_D => Sys2Proof.Machine.execLd_A_D s
  | .ld_A_E => Sys2Proof.Machine.execLd_A_E s
  | .ld_A_H => Sys2Proof.Machine.execLd_A_H s
  | .ld_A_L => Sys2Proof.Machine.execLd_A_L s
  | .ld_A_mHL => Sys2Proof.Machine.execLd_A_mHL s
  | .ld_A_A => Sys2Proof.Machine.execLd_A_A s
  | .add_A_B => Sys2Proof.Machine.execAdd_A_B s
  | .add_A_C => Sys2Proof.Machine.execAdd_A_C s
  | .add_A_D => Sys2Proof.Machine.execAdd_A_D s
  | .add_A_E => Sys2Proof.Machine.execAdd_A_E s
  | .add_A_H => Sys2Proof.Machine.execAdd_A_H s
  | .add_A_L => Sys2Proof.Machine.execAdd_A_L s
  | .add_A_mHL => Sys2Proof.Machine.execAdd_A_mHL s
  | .add_A_A => Sys2Proof.Machine.execAdd_A_A s
  | .noEntry_88 => Sys2Proof.Machine.execNoEntry_88 s
  | .noEntry_89 => Sys2Proof.Machine.execNoEntry_89 s
  | .noEntry_8A => Sys2Proof.Machine.execNoEntry_8A s
  | .noEntry_8B => Sys2Proof.Machine.execNoEntry_8B s
  | .noEntry_8C => Sys2Proof.Machine.execNoEntry_8C s
  | .noEntry_8D => Sys2Proof.Machine.execNoEntry_8D s
  | .noEntry_8E => Sys2Proof.Machine.execNoEntry_8E s
  | .noEntry_8F => Sys2Proof.Machine.execNoEntry_8F s
  | .sub_B => Sys2Proof.Machine.execSub_B s
  | .sub_C => Sys2Proof.Machine.execSub_C s
  | .sub_D => Sys2Proof.Machine.execSub_D s
  | .sub_E => Sys2Proof.Machine.execSub_E s
  | .sub_H => Sys2Proof.Machine.execSub_H s
  | .sub_L => Sys2Proof.Machine.execSub_L s
  | .sub_mHL => Sys2Proof.Machine.execSub_mHL s
  | .sub_A => Sys2Proof.Machine.execSub_A s
  | .noEntry_98 => Sys2Proof.Machine.execNoEntry_98 s
  | .noEntry_99 => Sys2Proof.Machine.execNoEntry_99 s
  | .noEntry_9A => Sys2Proof.Machine.execNoEntry_9A s
  | .noEntry_9B => Sys2Proof.Machine.execNoEntry_9B s
  | .noEntry_9C => Sys2Proof.Machine.execNoEntry_9C s
  | .noEntry_9D => Sys2Proof.Machine.execNoEntry_9D s
  | .noEntry_9E => Sys2Proof.Machine.execNoEntry_9E s
  | .noEntry_9F => Sys2Proof.Machine.execNoEntry_9F s
  | .noEntry_A0 => Sys2Proof.Machine.execNoEntry_A0 s
  | .noEntry_A1 => Sys2Proof.Machine.execNoEntry_A1 s
  | .noEntry_A2 => Sys2Proof.Machine.execNoEntry_A2 s
  | .noEntry_A3 => Sys2Proof.Machine.execNoEntry_A3 s
  | .noEntry_A4 => Sys2Proof.Machine.execNoEntry_A4 s
  | .noEntry_A5 => Sys2Proof.Machine.execNoEntry_A5 s
  | .noEntry_A6 => Sys2Proof.Machine.execNoEntry_A6 s
  | .noEntry_A7 => Sys2Proof.Machine.execNoEntry_A7 s
  | .noEntry_A8 => Sys2Proof.Machine.execNoEntry_A8 s
  | .noEntry_A9 => Sys2Proof.Machine.execNoEntry_A9 s
  | .noEntry_AA => Sys2Proof.Machine.execNoEntry_AA s
  | .noEntry_AB => Sys2Proof.Machine.execNoEntry_AB s
  | .noEntry_AC => Sys2Proof.Machine.execNoEntry_AC s
  | .noEntry_AD => Sys2Proof.Machine.execNoEntry_AD s
  | .noEntry_AE => Sys2Proof.Machine.execNoEntry_AE s
  | .noEntry_AF => Sys2Proof.Machine.execNoEntry_AF s
  | .noEntry_B0 => Sys2Proof.Machine.execNoEntry_B0 s
  | .noEntry_B1 => Sys2Proof.Machine.execNoEntry_B1 s
  | .noEntry_B2 => Sys2Proof.Machine.execNoEntry_B2 s
  | .noEntry_B3 => Sys2Proof.Machine.execNoEntry_B3 s
  | .noEntry_B4 => Sys2Proof.Machine.execNoEntry_B4 s
  | .noEntry_B5 => Sys2Proof.Machine.execNoEntry_B5 s
  | .noEntry_B6 => Sys2Proof.Machine.execNoEntry_B6 s
  | .noEntry_B7 => Sys2Proof.Machine.execNoEntry_B7 s
  | .cp_B => Sys2Proof.Machine.execCp_B s
  | .cp_C => Sys2Proof.Machine.execCp_C s
  | .cp_D => Sys2Proof.Machine.execCp_D s
  | .cp_E => Sys2Proof.Machine.execCp_E s
  | .cp_H => Sys2Proof.Machine.execCp_H s
  | .cp_L => Sys2Proof.Machine.execCp_L s
  | .cp_mHL => Sys2Proof.Machine.execCp_mHL s
  | .cp_A => Sys2Proof.Machine.execCp_A s
  | .noEntry_C0 => Sys2Proof.Machine.execNoEntry_C0 s
  | .pop_BC => Sys2Proof.Machine.execPop_BC s
  | .noEntry_C2 => Sys2Proof.Machine.execNoEntry_C2 s
  | .noEntry_C3 => Sys2Proof.Machine.execNoEntry_C3 s
  | .noEntry_C4 => Sys2Proof.Machine.execNoEntry_C4 s
  | .push_BC => Sys2Proof.Machine.execPush_BC s
  | .add_A_d8 d8 => Sys2Proof.Machine.execAdd_A_d8 d8 s
  | .noEntry_C7 => Sys2Proof.Machine.execNoEntry_C7 s
  | .noEntry_C8 => Sys2Proof.Machine.execNoEntry_C8 s
  | .ret => Sys2Proof.Machine.execRet s
  | .noEntry_CA => Sys2Proof.Machine.execNoEntry_CA s
  | .prefixCB op2 => Sys2Proof.Machine.execPrefixCB op2 s
  | .noEntry_CC => Sys2Proof.Machine.execNoEntry_CC s
  | .call_u16 u16 => Sys2Proof.Machine.execCall_u16 u16 s
  | .noEntry_CE => Sys2Proof.Machine.execNoEntry_CE s
  | .noEntry_CF => Sys2Proof.Machine.execNoEntry_CF s
  | .noEntry_D0 => Sys2Proof.Machine.execNoEntry_D0 s
  | .pop_DE => Sys2Proof.Machine.execPop_DE s
  | .noEntry_D2 => Sys2Proof.Machine.execNoEntry_D2 s
  | .noEntry_D3 => Sys2Proof.Machine.execNoEntry_D3 s
  | .noEntry_D4 => Sys2Proof.Machine.execNoEntry_D4 s
  | .push_DE => Sys2Proof.Machine.execPush_DE s
  | .sub_d8 d8 => Sys2Proof.Machine.execSub_d8 d8 s
  | .noEntry_D7 => Sys2Proof.Machine.execNoEntry_D7 s
  | .noEntry_D8 => Sys2Proof.Machine.execNoEntry_D8 s
  | .reti => Sys2Proof.Machine.execReti s
  | .noEntry_DA => Sys2Proof.Machine.execNoEntry_DA s
  | .noEntry_DB => Sys2Proof.Machine.execNoEntry_DB s
  | .noEntry_DC => Sys2Proof.Machine.execNoEntry_DC s
  | .noEntry_DD => Sys2Proof.Machine.execNoEntry_DD s
  | .noEntry_DE => Sys2Proof.Machine.execNoEntry_DE s
  | .noEntry_DF => Sys2Proof.Machine.execNoEntry_DF s
  | .ldh_mA8_A a8 => Sys2Proof.Machine.execLdh_mA8_A a8 s
  | .pop_HL => Sys2Proof.Machine.execPop_HL s
  | .ld_mC_A => Sys2Proof.Machine.execLd_mC_A s
  | .noEntry_E3 => Sys2Proof.Machine.execNoEntry_E3 s
  | .noEntry_E4 => Sys2Proof.Machine.execNoEntry_E4 s
  | .push_HL => Sys2Proof.Machine.execPush_HL s
  | .noEntry_E6 => Sys2Proof.Machine.execNoEntry_E6 s
  | .noEntry_E7 => Sys2Proof.Machine.execNoEntry_E7 s
  | .noEntry_E8 => Sys2Proof.Machine.execNoEntry_E8 s
  | .noEntry_E9 => Sys2Proof.Machine.execNoEntry_E9 s
  | .ld_mA16_A a16 => Sys2Proof.Machine.execLd_mA16_A a16 s
  | .noEntry_EB => Sys2Proof.Machine.execNoEntry_EB s
  | .noEntry_EC => Sys2Proof.Machine.execNoEntry_EC s
  | .noEntry_ED => Sys2Proof.Machine.execNoEntry_ED s
  | .noEntry_EE => Sys2Proof.Machine.execNoEntry_EE s
  | .noEntry_EF => Sys2Proof.Machine.execNoEntry_EF s
  | .ldh_A_mA8 a8 => Sys2Proof.Machine.execLdh_A_mA8 a8 s
  | .pop_AF => Sys2Proof.Machine.execPop_AF s
  | .ld_A_mC => Sys2Proof.Machine.execLd_A_mC s
  | .di => Sys2Proof.Machine.execDi s
  | .noEntry_F4 => Sys2Proof.Machine.execNoEntry_F4 s
  | .push_AF => Sys2Proof.Machine.execPush_AF s
  | .noEntry_F6 => Sys2Proof.Machine.execNoEntry_F6 s
  | .noEntry_F7 => Sys2Proof.Machine.execNoEntry_F7 s
  | .noEntry_F8 => Sys2Proof.Machine.execNoEntry_F8 s
  | .noEntry_F9 => Sys2Proof.Machine.execNoEntry_F9 s
  | .ld_A_mA16 a16 => Sys2Proof.Machine.execLd_A_mA16 a16 s
  | .ei => Sys2Proof.Machine.execEi s
  | .noEntry_FC => Sys2Proof.Machine.execNoEntry_FC s
  | .noEntry_FD => Sys2Proof.Machine.execNoEntry_FD s
  | .cp_d8 d8 => Sys2Proof.Machine.execCp_d8 d8 s
  | .noEntry_FF => Sys2Proof.Machine.execNoEntry_FF s
  | .rlc_B => Sys2Proof.Machine.execRlc_B s
  | .rlc_C => Sys2Proof.Machine.execRlc_C s
  | .rlc_D => Sys2Proof.Machine.execRlc_D s
  | .rlc_E => Sys2Proof.Machine.execRlc_E s
  | .rlc_H => Sys2Proof.Machine.execRlc_H s
  | .rlc_L => Sys2Proof.Machine.execRlc_L s
  | .rlc_mHL => Sys2Proof.Machine.execRlc_mHL s
  | .rlc_A => Sys2Proof.Machine.execRlc_A s
  | .rrc_B => Sys2Proof.Machine.execRrc_B s
  | .rrc_C => Sys2Proof.Machine.execRrc_C s
  | .rrc_D => Sys2Proof.Machine.execRrc_D s
  | .rrc_E => Sys2Proof.Machine.execRrc_E s
  | .rrc_H => Sys2Proof.Machine.execRrc_H s
  | .rrc_L => Sys2Proof.Machine.execRrc_L s
  | .rrc_mHL => Sys2Proof.Machine.execRrc_mHL s
  | .rrc_A => Sys2Proof.Machine.execRrc_A s
  | .rl_B => Sys2Proof.Machine.execRl_B s
  | .rl_C => Sys2Proof.Machine.execRl_C s
  | .rl_D => Sys2Proof.Machine.execRl_D s
  | .rl_E => Sys2Proof.Machine.execRl_E s
  | .rl_H => Sys2Proof.Machine.execRl_H s
  | .rl_L => Sys2Proof.Machine.execRl_L s
  | .rl_mHL => Sys2Proof.Machine.execRl_mHL s
  | .rl_A => Sys2Proof.Machine.execRl_A s
  | .rr_B => Sys2Proof.Machine.execRr_B s
  | .rr_C => Sys2Proof.Machine.execRr_C s
  | .rr_D => Sys2Proof.Machine.execRr_D s
  | .rr_E => Sys2Proof.Machine.execRr_E s
  | .rr_H => Sys2Proof.Machine.execRr_H s
  | .rr_L => Sys2Proof.Machine.execRr_L s
  | .rr_mHL => Sys2Proof.Machine.execRr_mHL s
  | .rr_A => Sys2Proof.Machine.execRr_A s
  | .noEntry_CB_20 => Sys2Proof.Machine.execNoEntry_CB_20 s
  | .noEntry_CB_21 => Sys2Proof.Machine.execNoEntry_CB_21 s
  | .noEntry_CB_22 => Sys2Proof.Machine.execNoEntry_CB_22 s
  | .noEntry_CB_23 => Sys2Proof.Machine.execNoEntry_CB_23 s
  | .noEntry_CB_24 => Sys2Proof.Machine.execNoEntry_CB_24 s
  | .noEntry_CB_25 => Sys2Proof.Machine.execNoEntry_CB_25 s
  | .noEntry_CB_26 => Sys2Proof.Machine.execNoEntry_CB_26 s
  | .noEntry_CB_27 => Sys2Proof.Machine.execNoEntry_CB_27 s
  | .noEntry_CB_28 => Sys2Proof.Machine.execNoEntry_CB_28 s
  | .noEntry_CB_29 => Sys2Proof.Machine.execNoEntry_CB_29 s
  | .noEntry_CB_2A => Sys2Proof.Machine.execNoEntry_CB_2A s
  | .noEntry_CB_2B => Sys2Proof.Machine.execNoEntry_CB_2B s
  | .noEntry_CB_2C => Sys2Proof.Machine.execNoEntry_CB_2C s
  | .noEntry_CB_2D => Sys2Proof.Machine.execNoEntry_CB_2D s
  | .noEntry_CB_2E => Sys2Proof.Machine.execNoEntry_CB_2E s
  | .noEntry_CB_2F => Sys2Proof.Machine.execNoEntry_CB_2F s
  | .noEntry_CB_30 => Sys2Proof.Machine.execNoEntry_CB_30 s
  | .noEntry_CB_31 => Sys2Proof.Machine.execNoEntry_CB_31 s
  | .noEntry_CB_32 => Sys2Proof.Machine.execNoEntry_CB_32 s
  | .noEntry_CB_33 => Sys2Proof.Machine.execNoEntry_CB_33 s
  | .noEntry_CB_34 => Sys2Proof.Machine.execNoEntry_CB_34 s
  | .noEntry_CB_35 => Sys2Proof.Machine.execNoEntry_CB_35 s
  | .noEntry_CB_36 => Sys2Proof.Machine.execNoEntry_CB_36 s
  | .noEntry_CB_37 => Sys2Proof.Machine.execNoEntry_CB_37 s
  | .noEntry_CB_38 => Sys2Proof.Machine.execNoEntry_CB_38 s
  | .noEntry_CB_39 => Sys2Proof.Machine.execNoEntry_CB_39 s
  | .noEntry_CB_3A => Sys2Proof.Machine.execNoEntry_CB_3A s
  | .noEntry_CB_3B => Sys2Proof.Machine.execNoEntry_CB_3B s
  | .noEntry_CB_3C => Sys2Proof.Machine.execNoEntry_CB_3C s
  | .noEntry_CB_3D => Sys2Proof.Machine.execNoEntry_CB_3D s
  | .noEntry_CB_3E => Sys2Proof.Machine.execNoEntry_CB_3E s
  | .noEntry_CB_3F => Sys2Proof.Machine.execNoEntry_CB_3F s
  | .bit_0_B => Sys2Proof.Machine.execBit_0_B s
  | .bit_0_C => Sys2Proof.Machine.execBit_0_C s
  | .bit_0_D => Sys2Proof.Machine.execBit_0_D s
  | .bit_0_E => Sys2Proof.Machine.execBit_0_E s
  | .bit_0_H => Sys2Proof.Machine.execBit_0_H s
  | .bit_0_L => Sys2Proof.Machine.execBit_0_L s
  | .bit_0_mHL => Sys2Proof.Machine.execBit_0_mHL s
  | .bit_0_A => Sys2Proof.Machine.execBit_0_A s
  | .bit_1_B => Sys2Proof.Machine.execBit_1_B s
  | .bit_1_C => Sys2Proof.Machine.execBit_1_C s
  | .bit_1_D => Sys2Proof.Machine.execBit_1_D s
  | .bit_1_E => Sys2Proof.Machine.execBit_1_E s
  | .bit_1_H => Sys2Proof.Machine.execBit_1_H s
  | .bit_1_L => Sys2Proof.Machine.execBit_1_L s
  | .bit_1_mHL => Sys2Proof.Machine.execBit_1_mHL s
  | .bit_1_A => Sys2Proof.Machine.execBit_1_A s
  | .bit_2_B => Sys2Proof.Machine.execBit_2_B s
  | .bit_2_C => Sys2Proof.Machine.execBit_2_C s
  | .bit_2_D => Sys2Proof.Machine.execBit_2_D s
  | .bit_2_E => Sys2Proof.Machine.execBit_2_E s
  | .bit_2_H => Sys2Proof.Machine.execBit_2_H s
  | .bit_2_L => Sys2Proof.Machine.execBit_2_L s
  | .bit_2_mHL => Sys2Proof.Machine.execBit_2_mHL s
  | .bit_2_A => Sys2Proof.Machine.execBit_2_A s
  | .bit_3_B => Sys2Proof.Machine.execBit_3_B s
  | .bit_3_C => Sys2Proof.Machine.execBit_3_C s
  | .bit_3_D => Sys2Proof.Machine.execBit_3_D s
  | .bit_3_E => Sys2Proof.Machine.execBit_3_E s
  | .bit_3_H => Sys2Proof.Machine.execBit_3_H s
  | .bit_3_L => Sys2Proof.Machine.execBit_3_L s
  | .bit_3_mHL => Sys2Proof.Machine.execBit_3_mHL s
  | .bit_3_A => Sys2Proof.Machine.execBit_3_A s
  | .bit_4_B => Sys2Proof.Machine.execBit_4_B s
  | .bit_4_C => Sys2Proof.Machine.execBit_4_C s
  | .bit_4_D => Sys2Proof.Machine.execBit_4_D s
  | .bit_4_E => Sys2Proof.Machine.execBit_4_E s
  | .bit_4_H => Sys2Proof.Machine.execBit_4_H s
  | .bit_4_L => Sys2Proof.Machine.execBit_4_L s
  | .bit_4_mHL => Sys2Proof.Machine.execBit_4_mHL s
  | .bit_4_A => Sys2Proof.Machine.execBit_4_A s
  | .bit_5_B => Sys2Proof.Machine.execBit_5_B s
  | .bit_5_C => Sys2Proof.Machine.execBit_5_C s
  | .bit_5_D => Sys2Proof.Machine.execBit_5_D s
  | .bit_5_E => Sys2Proof.Machine.execBit_5_E s
  | .bit_5_H => Sys2Proof.Machine.execBit_5_H s
  | .bit_5_L => Sys2Proof.Machine.execBit_5_L s
  | .bit_5_mHL => Sys2Proof.Machine.execBit_5_mHL s
  | .bit_5_A => Sys2Proof.Machine.execBit_5_A s
  | .bit_6_B => Sys2Proof.Machine.execBit_6_B s
  | .bit_6_C => Sys2Proof.Machine.execBit_6_C s
  | .bit_6_D => Sys2Proof.Machine.execBit_6_D s
  | .bit_6_E => Sys2Proof.Machine.execBit_6_E s
  | .bit_6_H => Sys2Proof.Machine.execBit_6_H s
  | .bit_6_L => Sys2Proof.Machine.execBit_6_L s
  | .bit_6_mHL => Sys2Proof.Machine.execBit_6_mHL s
  | .bit_6_A => Sys2Proof.Machine.execBit_6_A s
  | .bit_7_B => Sys2Proof.Machine.execBit_7_B s
  | .bit_7_C => Sys2Proof.Machine.execBit_7_C s
  | .bit_7_D => Sys2Proof.Machine.execBit_7_D s
  | .bit_7_E => Sys2Proof.Machine.execBit_7_E s
  | .bit_7_H => Sys2Proof.Machine.execBit_7_H s
  | .bit_7_L => Sys2Proof.Machine.execBit_7_L s
  | .bit_7_mHL => Sys2Proof.Machine.execBit_7_mHL s
  | .bit_7_A => Sys2Proof.Machine.execBit_7_A s
  | .noEntry_CB_80 => Sys2Proof.Machine.execNoEntry_CB_80 s
  | .noEntry_CB_81 => Sys2Proof.Machine.execNoEntry_CB_81 s
  | .noEntry_CB_82 => Sys2Proof.Machine.execNoEntry_CB_82 s
  | .noEntry_CB_83 => Sys2Proof.Machine.execNoEntry_CB_83 s
  | .noEntry_CB_84 => Sys2Proof.Machine.execNoEntry_CB_84 s
  | .noEntry_CB_85 => Sys2Proof.Machine.execNoEntry_CB_85 s
  | .noEntry_CB_86 => Sys2Proof.Machine.execNoEntry_CB_86 s
  | .noEntry_CB_87 => Sys2Proof.Machine.execNoEntry_CB_87 s
  | .noEntry_CB_88 => Sys2Proof.Machine.execNoEntry_CB_88 s
  | .noEntry_CB_89 => Sys2Proof.Machine.execNoEntry_CB_89 s
  | .noEntry_CB_8A => Sys2Proof.Machine.execNoEntry_CB_8A s
  | .noEntry_CB_8B => Sys2Proof.Machine.execNoEntry_CB_8B s
  | .noEntry_CB_8C => Sys2Proof.Machine.execNoEntry_CB_8C s
  | .noEntry_CB_8D => Sys2Proof.Machine.execNoEntry_CB_8D s
  | .noEntry_CB_8E => Sys2Proof.Machine.execNoEntry_CB_8E s
  | .noEntry_CB_8F => Sys2Proof.Machine.execNoEntry_CB_8F s
  | .noEntry_CB_90 => Sys2Proof.Machine.execNoEntry_CB_90 s
  | .noEntry_CB_91 => Sys2Proof.Machine.execNoEntry_CB_91 s
  | .noEntry_CB_92 => Sys2Proof.Machine.execNoEntry_CB_92 s
  | .noEntry_CB_93 => Sys2Proof.Machine.execNoEntry_CB_93 s
  | .noEntry_CB_94 => Sys2Proof.Machine.execNoEntry_CB_94 s
  | .noEntry_CB_95 => Sys2Proof.Machine.execNoEntry_CB_95 s
  | .noEntry_CB_96 => Sys2Proof.Machine.execNoEntry_CB_96 s
  | .noEntry_CB_97 => Sys2Proof.Machine.execNoEntry_CB_97 s
  | .noEntry_CB_98 => Sys2Proof.Machine.execNoEntry_CB_98 s
  | .noEntry_CB_99 => Sys2Proof.Machine.execNoEntry_CB_99 s
  | .noEntry_CB_9A => Sys2Proof.Machine.execNoEntry_CB_9A s
  | .noEntry_CB_9B => Sys2Proof.Machine.execNoEntry_CB_9B s
  | .noEntry_CB_9C => Sys2Proof.Machine.execNoEntry_CB_9C s
  | .noEntry_CB_9D => Sys2Proof.Machine.execNoEntry_CB_9D s
  | .noEntry_CB_9E => Sys2Proof.Machine.execNoEntry_CB_9E s
  | .noEntry_CB_9F => Sys2Proof.Machine.execNoEntry_CB_9F s
  | .noEntry_CB_A0 => Sys2Proof.Machine.execNoEntry_CB_A0 s
  | .noEntry_CB_A1 => Sys2Proof.Machine.execNoEntry_CB_A1 s
  | .noEntry_CB_A2 => Sys2Proof.Machine.execNoEntry_CB_A2 s
  | .noEntry_CB_A3 => Sys2Proof.Machine.execNoEntry_CB_A3 s
  | .noEntry_CB_A4 => Sys2Proof.Machine.execNoEntry_CB_A4 s
  | .noEntry_CB_A5 => Sys2Proof.Machine.execNoEntry_CB_A5 s
  | .noEntry_CB_A6 => Sys2Proof.Machine.execNoEntry_CB_A6 s
  | .noEntry_CB_A7 => Sys2Proof.Machine.execNoEntry_CB_A7 s
  | .noEntry_CB_A8 => Sys2Proof.Machine.execNoEntry_CB_A8 s
  | .noEntry_CB_A9 => Sys2Proof.Machine.execNoEntry_CB_A9 s
  | .noEntry_CB_AA => Sys2Proof.Machine.execNoEntry_CB_AA s
  | .noEntry_CB_AB => Sys2Proof.Machine.execNoEntry_CB_AB s
  | .noEntry_CB_AC => Sys2Proof.Machine.execNoEntry_CB_AC s
  | .noEntry_CB_AD => Sys2Proof.Machine.execNoEntry_CB_AD s
  | .noEntry_CB_AE => Sys2Proof.Machine.execNoEntry_CB_AE s
  | .noEntry_CB_AF => Sys2Proof.Machine.execNoEntry_CB_AF s
  | .noEntry_CB_B0 => Sys2Proof.Machine.execNoEntry_CB_B0 s
  | .noEntry_CB_B1 => Sys2Proof.Machine.execNoEntry_CB_B1 s
  | .noEntry_CB_B2 => Sys2Proof.Machine.execNoEntry_CB_B2 s
  | .noEntry_CB_B3 => Sys2Proof.Machine.execNoEntry_CB_B3 s
  | .noEntry_CB_B4 => Sys2Proof.Machine.execNoEntry_CB_B4 s
  | .noEntry_CB_B5 => Sys2Proof.Machine.execNoEntry_CB_B5 s
  | .noEntry_CB_B6 => Sys2Proof.Machine.execNoEntry_CB_B6 s
  | .noEntry_CB_B7 => Sys2Proof.Machine.execNoEntry_CB_B7 s
  | .noEntry_CB_B8 => Sys2Proof.Machine.execNoEntry_CB_B8 s
  | .noEntry_CB_B9 => Sys2Proof.Machine.execNoEntry_CB_B9 s
  | .noEntry_CB_BA => Sys2Proof.Machine.execNoEntry_CB_BA s
  | .noEntry_CB_BB => Sys2Proof.Machine.execNoEntry_CB_BB s
  | .noEntry_CB_BC => Sys2Proof.Machine.execNoEntry_CB_BC s
  | .noEntry_CB_BD => Sys2Proof.Machine.execNoEntry_CB_BD s
  | .noEntry_CB_BE => Sys2Proof.Machine.execNoEntry_CB_BE s
  | .noEntry_CB_BF => Sys2Proof.Machine.execNoEntry_CB_BF s
  | .noEntry_CB_C0 => Sys2Proof.Machine.execNoEntry_CB_C0 s
  | .noEntry_CB_C1 => Sys2Proof.Machine.execNoEntry_CB_C1 s
  | .noEntry_CB_C2 => Sys2Proof.Machine.execNoEntry_CB_C2 s
  | .noEntry_CB_C3 => Sys2Proof.Machine.execNoEntry_CB_C3 s
  | .noEntry_CB_C4 => Sys2Proof.Machine.execNoEntry_CB_C4 s
  | .noEntry_CB_C5 => Sys2Proof.Machine.execNoEntry_CB_C5 s
  | .noEntry_CB_C6 => Sys2Proof.Machine.execNoEntry_CB_C6 s
  | .noEntry_CB_C7 => Sys2Proof.Machine.execNoEntry_CB_C7 s
  | .noEntry_CB_C8 => Sys2Proof.Machine.execNoEntry_CB_C8 s
  | .noEntry_CB_C9 => Sys2Proof.Machine.execNoEntry_CB_C9 s
  | .noEntry_CB_CA => Sys2Proof.Machine.execNoEntry_CB_CA s
  | .noEntry_CB_CB => Sys2Proof.Machine.execNoEntry_CB_CB s
  | .noEntry_CB_CC => Sys2Proof.Machine.execNoEntry_CB_CC s
  | .noEntry_CB_CD => Sys2Proof.Machine.execNoEntry_CB_CD s
  | .noEntry_CB_CE => Sys2Proof.Machine.execNoEntry_CB_CE s
  | .noEntry_CB_CF => Sys2Proof.Machine.execNoEntry_CB_CF s
  | .noEntry_CB_D0 => Sys2Proof.Machine.execNoEntry_CB_D0 s
  | .noEntry_CB_D1 => Sys2Proof.Machine.execNoEntry_CB_D1 s
  | .noEntry_CB_D2 => Sys2Proof.Machine.execNoEntry_CB_D2 s
  | .noEntry_CB_D3 => Sys2Proof.Machine.execNoEntry_CB_D3 s
  | .noEntry_CB_D4 => Sys2Proof.Machine.execNoEntry_CB_D4 s
  | .noEntry_CB_D5 => Sys2Proof.Machine.execNoEntry_CB_D5 s
  | .noEntry_CB_D6 => Sys2Proof.Machine.execNoEntry_CB_D6 s
  | .noEntry_CB_D7 => Sys2Proof.Machine.execNoEntry_CB_D7 s
  | .noEntry_CB_D8 => Sys2Proof.Machine.execNoEntry_CB_D8 s
  | .noEntry_CB_D9 => Sys2Proof.Machine.execNoEntry_CB_D9 s
  | .noEntry_CB_DA => Sys2Proof.Machine.execNoEntry_CB_DA s
  | .noEntry_CB_DB => Sys2Proof.Machine.execNoEntry_CB_DB s
  | .noEntry_CB_DC => Sys2Proof.Machine.execNoEntry_CB_DC s
  | .noEntry_CB_DD => Sys2Proof.Machine.execNoEntry_CB_DD s
  | .noEntry_CB_DE => Sys2Proof.Machine.execNoEntry_CB_DE s
  | .noEntry_CB_DF => Sys2Proof.Machine.execNoEntry_CB_DF s
  | .noEntry_CB_E0 => Sys2Proof.Machine.execNoEntry_CB_E0 s
  | .noEntry_CB_E1 => Sys2Proof.Machine.execNoEntry_CB_E1 s
  | .noEntry_CB_E2 => Sys2Proof.Machine.execNoEntry_CB_E2 s
  | .noEntry_CB_E3 => Sys2Proof.Machine.execNoEntry_CB_E3 s
  | .noEntry_CB_E4 => Sys2Proof.Machine.execNoEntry_CB_E4 s
  | .noEntry_CB_E5 => Sys2Proof.Machine.execNoEntry_CB_E5 s
  | .noEntry_CB_E6 => Sys2Proof.Machine.execNoEntry_CB_E6 s
  | .noEntry_CB_E7 => Sys2Proof.Machine.execNoEntry_CB_E7 s
  | .noEntry_CB_E8 => Sys2Proof.Machine.execNoEntry_CB_E8 s
  | .noEntry_CB_E9 => Sys2Proof.Machine.execNoEntry_CB_E9 s
  | .noEntry_CB_EA => Sys2Proof.Machine.execNoEntry_CB_EA s
  | .noEntry_CB_EB => Sys2Proof.Machine.execNoEntry_CB_EB s
  | .noEntry_CB_EC => Sys2Proof.Machine.execNoEntry_CB_EC s
  | .noEntry_CB_ED => Sys2Proof.Machine.execNoEntry_CB_ED s
  | .noEntry_CB_EE => Sys2Proof.Machine.execNoEntry_CB_EE s
  | .noEntry_CB_EF => Sys2Proof.Machine.execNoEntry_CB_EF s
  | .noEntry_CB_F0 => Sys2Proof.Machine.execNoEntry_CB_F0 s
  | .noEntry_CB_F1 => Sys2Proof.Machine.execNoEntry_CB_F1 s
  | .noEntry_CB_F2 => Sys2Proof.Machine.execNoEntry_CB_F2 s
  | .noEntry_CB_F3 => Sys2Proof.Machine.execNoEntry_CB_F3 s
  | .noEntry_CB_F4 => Sys2Proof.Machine.execNoEntry_CB_F4 s
  | .noEntry_CB_F5 => Sys2Proof.Machine.execNoEntry_CB_F5 s
  | .noEntry_CB_F6 => Sys2Proof.Machine.execNoEntry_CB_F6 s
  | .noEntry_CB_F7 => Sys2Proof.Machine.execNoEntry_CB_F7 s
  | .noEntry_CB_F8 => Sys2Proof.Machine.execNoEntry_CB_F8 s
  | .noEntry_CB_F9 => Sys2Proof.Machine.execNoEntry_CB_F9 s
  | .noEntry_CB_FA => Sys2Proof.Machine.execNoEntry_CB_FA s
  | .noEntry_CB_FB => Sys2Proof.Machine.execNoEntry_CB_FB s
  | .noEntry_CB_FC => Sys2Proof.Machine.execNoEntry_CB_FC s
  | .noEntry_CB_FD => Sys2Proof.Machine.execNoEntry_CB_FD s
  | .noEntry_CB_FE => Sys2Proof.Machine.execNoEntry_CB_FE s
  | .noEntry_CB_FF => Sys2Proof.Machine.execNoEntry_CB_FF s

end Sys2Proof.Machine
end

