-- ==== Sys2Proof/Machine/Step.lean ====
section
/-! DEFINITION. One step (R230, 60_exceptions.md), the only transition of the core, and where a host places the
next instruction. -/

namespace Sys2Proof.Machine

/-- One step: fetch and decode (phase 1), execute (phase 2), then charge, EI-delay tick and interrupt
check (phases 3 to 5). A decode failure ends the step with no next state (R210, R211). -/
def step (s : State) : Host.Outcome State Fault Refusal :=
  let f := s.beginStep.fetchInstr
  match exec f.1 f.2 with
  | .next t => .next t.endOfStep
  | .fault r => .fault r
  | .refused r => .refused r

/-- The instruction of a table word, stored in memory where `step` fetches next, at PC. Nothing else
changes: the core fetches every program from memory (R75; log 18). -/
def State.withFetchWord (s : State) (nbits w : Nat) : State :=
  let b := tableBytes nbits w
  { s with mem := s.mem.writeBytes s.pc [b.1, b.2.1, b.2.2] }

end Sys2Proof.Machine
end

