-- ==== Sys2Proof/Machine/Generic.lean ====
section
/-! DEFINITION. The core under any parameters of R8: the execute phase of a format, the step and the reset. -/

namespace Sys2Proof.Machine

/-- The execute phase (R14, R230 phase 2) of a format under any parameters: its shared operation. `exec` is this at
the defaults, arm by arm (`exec_eq_execForm`). -/
def execForm (f : Form) (s : State) (P : Params := Params.default) : Result :=
  match f with
  | .ldRR dst src => loadReg dst src s P
  | .ldRHl dst => loadHl dst s P
  | .ldHlR src => storeHl src s P
  | .ldRD8 dst d8 => loadImm dst d8 s P
  | .incR dst => incReg dst s P
  | .decR dst => decReg dst s P
  | .ldRrD16 rr d16 => loadImm16 rr d16 s P
  | .incRr rr => incReg16 rr s P
  | .decRr rr => decReg16 rr s P
  | .ldRrA p => storeInd p s P
  | .ldARr p => loadInd p s P
  | .rotA dir => rotateAcc dir s P
  | .jr i8 => jumpRel i8 s P
  | .jrCc cc i8 => jumpRelIf cc i8 s P
  | .aluR op src => aluReg op src s P
  | .aluHl op => aluMem op s P
  | .aluD8 op d8 => aluImm op d8 s P
  | .pop p => popPair p s P
  | .push p => pushPair p s P
  | .ret => returnSub s P
  | .reti => returnIrq s P
  | .call u16 => callAbs u16 s P
  | .prefixCb op2 => prefixedEntry op2 s P
  | .ldhA8A a8 => storeIoImm a8 s P
  | .ldhAA8 a8 => loadIoImm a8 s P
  | .ldCA => storeIoC s P
  | .ldAC => loadIoC s P
  | .ldA16A a16 => storeAbs a16 s P
  | .ldAA16 a16 => loadAbs a16 s P
  | .di => disableIrq s P
  | .ei => enableIrq s P
  | .cbRotR k src => rotateReg k src s P
  | .cbRotHl k => rotateMem k s P
  | .cbBitR n src => bitReg n src s P
  | .cbBitHl n => bitMem n s P
  | .noEntry byte => raiseUnimplemented false byte s
  | .noEntryCb byte => raiseUnimplemented true byte s

/-- One step (R230) under any parameters. `step` is this at the defaults. -/
def stepWith (s : State) (P : Params := Params.default) : Result :=
  let f := s.beginStep.fetchInstr P
  match execForm f.1.form f.2 P with
  | .next t => .next (t.endOfStep P)
  | .fault r => .fault r
  | .refused r => .refused r

/-- Reset (R47, R250, R251) under any parameters. -/
def Params.reset (P : Params) : State := State.resetWith P.imeReset P.memInit

end Sys2Proof.Machine
end

