-- ==== Sys2Proof/WellFormed.lean ====
section
/-! DEFINITION. Which terms of Instr are instructions of the admitted set (R96, 30_encoding.md). Register,
condition and bit operands are bounded by their types; two kinds of rows are no instruction. -/

namespace Sys2Proof

/-- Check 1: the row has a table entry (R97). -/
def Form.hasEntry : Form → Bool
  | .noEntry _ => false
  | .noEntryCb _ => false
  | _ => true

/-- Check 2: not the bare prefix, which is no instruction by itself (R202): its words are those of the
prefixed table's rows. -/
def Form.notBarePrefix : Form → Bool
  | .prefixCb _ => false
  | _ => true

/-- An instruction of the admitted set. -/
def Instr.wellFormed (i : Instr) : Bool := i.form.hasEntry && i.form.notBarePrefix

end Sys2Proof
end

