-- ==== Sys2Proof/Safety.lean ====
section
/-! DEFINITION. The words the statements use: the invariant of R49, the states a run can reach under the parameters
of R8 with other agents acting between steps (R78), and the spec's tables of what a format writes (R36, R39, R77). -/

namespace Sys2Proof.Machine

/-! ## The invariant and the runs -/

/-- R49, between steps, with `I` what the memory satisfies: F's low nibble is 0, EI_DELAY is 0 or 1 (ACC's bound is
its type's). -/
def State.InvWith (I : Memory → Prop) (s : State) : Prop := s.f &&& 0x0F#8 = 0#8 ∧ s.eiDelay ≠ 2 ∧ I s.mem

/-- R49 with the flat memory: it is in its canonical form. -/
def State.Inv (s : State) : Prop := s.InvWith (fun m => m.wf = true)

/-- `MEM` keeps a property of what it holds, whatever is read or written. -/
def Mem.Keeps (M : Mem) (I : Memory → Prop) : Prop :=
  (∀ m a, I m → I (M.read m a).2) ∧ ∀ m a v, I m → I (M.write m a v)

/-- `MEM` answers the transactions of a list in order (R69, R73): each read with the byte it then gives, and `n` is what
it holds afterwards when it held `m` before. -/
def Mem.Plays (M : Mem) (m : Memory) : List Access → Memory → Prop
  | [], n => n = m
  | .read a v :: rest, n => v = (M.read m a).1 ∧ M.Plays (M.read m a).2 rest n
  | .write a v :: rest, n => M.Plays (M.write m a v) rest n

/-- The states a run reaches under the parameters: from reset (R47, R251), by steps (R230), and by what `ENV` does to
memory between steps (R78). -/
inductive Reachable (P : Params) : State → Prop where
  | reset : Reachable P P.reset
  | step {s t : State} (hs : Reachable P s) (h : stepWith s P = .next t) : Reachable P t
  | env {s : State} (m : Memory) (hs : Reachable P s) (h : P.env s.mem m) : Reachable P (s.env m)

/-- The open system over the flat memory: the defaults, but for either IME_RESET, any canonical MEM_INIT, and an ENV
that may leave any canonical memory. -/
def Params.openFlat (ime : Bool) (m : Memory) : Params :=
  { Params.default with imeReset := ime, memInit := m, env := fun _ n => n.wf = true }

/-- A run of k steps in which no step faults (R211: what a claim about a program takes as a premise). -/
def RunsWithoutFault : Nat → State → Prop
  | 0, _ => True
  | k + 1, s => ∃ t, step s = .next t ∧ RunsWithoutFault k t

/-! ## The bytes with no entry, as R97 lists them -/

def noEntryBaseBytes : List Byte :=
  [0x00#8, 0x07#8, 0x08#8, 0x09#8, 0x0F#8, 0x10#8, 0x19#8, 0x22#8, 0x27#8, 0x29#8, 0x2A#8, 0x2F#8, 0x32#8, 0x34#8,
    0x35#8, 0x36#8, 0x37#8, 0x39#8, 0x3A#8, 0x3F#8, 0x76#8] ++
  [0x88#8, 0x89#8, 0x8A#8, 0x8B#8, 0x8C#8, 0x8D#8, 0x8E#8, 0x8F#8, 0x98#8, 0x99#8, 0x9A#8, 0x9B#8, 0x9C#8, 0x9D#8,
    0x9E#8, 0x9F#8] ++
  [0xA0#8, 0xA1#8, 0xA2#8, 0xA3#8, 0xA4#8, 0xA5#8, 0xA6#8, 0xA7#8, 0xA8#8, 0xA9#8, 0xAA#8, 0xAB#8, 0xAC#8, 0xAD#8,
    0xAE#8, 0xAF#8, 0xB0#8, 0xB1#8, 0xB2#8, 0xB3#8, 0xB4#8, 0xB5#8, 0xB6#8, 0xB7#8] ++
  [0xC0#8, 0xC2#8, 0xC3#8, 0xC4#8, 0xC7#8, 0xC8#8, 0xCA#8, 0xCC#8, 0xCE#8, 0xCF#8, 0xD0#8, 0xD2#8, 0xD3#8, 0xD4#8,
    0xD7#8, 0xD8#8, 0xDA#8, 0xDB#8, 0xDC#8, 0xDD#8, 0xDE#8, 0xDF#8] ++
  [0xE3#8, 0xE4#8, 0xE6#8, 0xE7#8, 0xE8#8, 0xE9#8, 0xEB#8, 0xEC#8, 0xED#8, 0xEE#8, 0xEF#8, 0xF4#8, 0xF6#8, 0xF7#8,
    0xF8#8, 0xF9#8, 0xFC#8, 0xFD#8, 0xFF#8]

/-- 0x20..0x3F and 0x80..0xFF. -/
def noEntryPrefixedByte (b : Byte) : Prop := (0x20 ≤ b.toNat ∧ b.toNat ≤ 0x3F) ∨ 0x80 ≤ b.toNat

end Sys2Proof.Machine

namespace Sys2Proof

open Machine

/-! ## What a format writes -/

/-- The bare prefix stands for its second byte's entry (R202); every other format for itself. -/
def Form.entry : Form → Form
  | .prefixCb op2 => (decodePrefixed op2).form
  | f => f

/-- The operand registers of a pair; AF's low byte is F, no operand register (R31, R32). -/
def Pair.regs : Pair → List Reg8
  | .bc => [.b, .c]
  | .de => [.d, .e]
  | .hl => [.h, .l]
  | .af => [.a]

/-- The operand registers of `rr`; SP is none. -/
def Reg16.regs : Reg16 → List Reg8
  | .bc => [.b, .c]
  | .de => [.d, .e]
  | .hl => [.h, .l]
  | .sp => []

def Reg16.isSp : Reg16 → Bool
  | .bc => false
  | .de => false
  | .hl => false
  | .sp => true

/-- ADD and SUB write A, CP no register (R153). -/
def AluOp.dest : AluOp → List Reg8
  | .add => [.a]
  | .sub => [.a]
  | .cp => []

/-- The operand registers a format writes. -/
def Form.dest : Form → List Reg8
  | .ldRR dst _ => [dst]
  | .ldRHl dst => [dst]
  | .ldRD8 dst _ => [dst]
  | .incR dst => [dst]
  | .decR dst => [dst]
  | .ldRrD16 rr _ => rr.regs
  | .incRr rr => rr.regs
  | .decRr rr => rr.regs
  | .ldARr _ => [.a]
  | .rotA _ => [.a]
  | .aluR op _ => op.dest
  | .aluHl op => op.dest
  | .aluD8 op _ => op.dest
  | .pop p => p.regs
  | .ldhAA8 _ => [.a]
  | .ldAC => [.a]
  | .ldAA16 _ => [.a]
  | .cbRotR _ src => [src]
  | .ldHlR _ | .ldRrA _ | .jr _ | .jrCc _ _ | .push _ | .ret | .reti | .call _ | .prefixCb _ | .ldhA8A _
  | .ldCA | .ldA16A _ | .di | .ei | .cbRotHl _ | .cbBitR _ _ | .cbBitHl _ | .noEntry _ | .noEntryCb _ => []

/-- The formats that move SP (R39): CALL, RET, RETI, PUSH, POP, LD SP,d16, INC SP, DEC SP. -/
def Form.mayMoveSp : Form → Bool
  | .call _ => true
  | .ret => true
  | .reti => true
  | .push _ => true
  | .pop _ => true
  | .ldRrD16 rr _ => rr.isSp
  | .incRr rr => rr.isSp
  | .decRr rr => rr.isSp
  | .ldRR _ _ | .ldRHl _ | .ldHlR _ | .ldRD8 _ _ | .incR _ | .decR _ | .ldRrA _ | .ldARr _ | .rotA _ | .jr _
  | .jrCc _ _ | .aluR _ _ | .aluHl _ | .aluD8 _ _ | .prefixCb _ | .ldhA8A _ | .ldhAA8 _ | .ldCA | .ldAC
  | .ldA16A _ | .ldAA16 _ | .di | .ei | .cbRotR _ _ | .cbRotHl _ | .cbBitR _ _ | .cbBitHl _ | .noEntry _
  | .noEntryCb _ => false

/-- The formats that transfer control (R38). -/
def Form.setsPc : Form → Bool
  | .jr _ => true
  | .jrCc _ _ => true
  | .call _ => true
  | .ret => true
  | .reti => true
  | .ldRR _ _ | .ldRHl _ | .ldHlR _ | .ldRD8 _ _ | .incR _ | .decR _ | .ldRrD16 _ _ | .incRr _ | .decRr _
  | .ldRrA _ | .ldARr _ | .rotA _ | .aluR _ _ | .aluHl _ | .aluD8 _ _ | .pop _ | .push _ | .prefixCb _
  | .ldhA8A _ | .ldhAA8 _ | .ldCA | .ldAC | .ldA16A _ | .ldAA16 _ | .di | .ei | .cbRotR _ _ | .cbRotHl _
  | .cbBitR _ _ | .cbBitHl _ | .noEntry _ | .noEntryCb _ => false

/-- The formats that write IME or EI_DELAY (R40, R41). -/
def Form.writesIme : Form → Bool
  | .di => true
  | .ei => true
  | .reti => true
  | .ldRR _ _ | .ldRHl _ | .ldHlR _ | .ldRD8 _ _ | .incR _ | .decR _ | .ldRrD16 _ _ | .incRr _ | .decRr _
  | .ldRrA _ | .ldARr _ | .rotA _ | .jr _ | .jrCc _ _ | .aluR _ _ | .aluHl _ | .aluD8 _ _ | .pop _ | .push _
  | .ret | .call _ | .prefixCb _ | .ldhA8A _ | .ldhAA8 _ | .ldCA | .ldAC | .ldA16A _ | .ldAA16 _ | .cbRotR _ _
  | .cbRotHl _ | .cbBitR _ _ | .cbBitHl _ | .noEntry _ | .noEntryCb _ => false

/-- The addresses a format stores to, in the order of R77, computed as its meaning computes them. -/
def Form.storedAddrs (s : State) : Form → List Word
  | .ldHlR _ => [s.addrHL]
  | .ldRrA p => [s.addrInd p]
  | .cbRotHl _ => [s.addrHL]
  | .call _ => [s.sp - 1#16, s.sp - 2#16]
  | .push _ => [s.sp - 1#16, s.sp - 2#16]
  | .ldhA8A a8 => [ioAddr a8]
  | .ldCA => [ioAddr s.c]
  | .ldA16A a16 => [a16]
  | .ldRR _ _ | .ldRHl _ | .ldRD8 _ _ | .incR _ | .decR _ | .ldRrD16 _ _ | .incRr _ | .decRr _ | .ldARr _
  | .rotA _ | .jr _ | .jrCc _ _ | .aluR _ _ | .aluHl _ | .aluD8 _ _ | .pop _ | .ret | .reti | .prefixCb _
  | .ldhAA8 _ | .ldAC | .ldAA16 _ | .di | .ei | .cbRotR _ _ | .cbBitR _ _ | .cbBitHl _ | .noEntry _
  | .noEntryCb _ => []

/-- The addresses a format reads as data, in the order of R77. -/
def Form.loadedAddrs (s : State) : Form → List Word
  | .ldRHl _ => [s.addrHL]
  | .ldARr p => [s.addrInd p]
  | .aluHl _ => [s.addrHL]
  | .cbBitHl _ => [s.addrHL]
  | .cbRotHl _ => [s.addrHL]
  | .ret => [s.sp, s.sp + 1#16]
  | .reti => [s.sp, s.sp + 1#16]
  | .pop _ => [s.sp, s.sp + 1#16]
  | .ldhAA8 a8 => [ioAddr a8]
  | .ldAC => [ioAddr s.c]
  | .ldAA16 a16 => [a16]
  | .ldRR _ _ | .ldHlR _ | .ldRD8 _ _ | .incR _ | .decR _ | .ldRrD16 _ _ | .incRr _ | .decRr _ | .ldRrA _
  | .rotA _ | .jr _ | .jrCc _ _ | .aluR _ _ | .aluD8 _ _ | .push _ | .call _ | .prefixCb _ | .ldhA8A _ | .ldCA
  | .ldA16A _ | .di | .ei | .cbRotR _ _ | .cbBitR _ _ | .noEntry _ | .noEntryCb _ => []

end Sys2Proof

namespace Sys2Proof.Machine

/-- What a transaction at the port is, without its data. -/
inductive AccessKind where
  | reads (addr : Word)
  | writes (addr : Word)
  deriving DecidableEq, Repr

def Access.kind : Access → AccessKind
  | .read a _ => .reads a
  | .write a _ => .writes a

/-! ## The flag table (R36) -/

inductive FlagEffect where
  | kept | zero | one | computed
  deriving DecidableEq, Repr

/-- What an entry of the table says of a flag before and after. -/
def FlagEffect.allows (before after : Bool) : FlagEffect → Prop
  | .kept => after = before
  | .zero => after = false
  | .one => after = true
  | .computed => True

/-- The effects on Z, N, Hf and Cy. -/
structure FlagRow where
  z : FlagEffect
  n : FlagEffect
  h : FlagEffect
  c : FlagEffect
  deriving DecidableEq, Repr

end Sys2Proof.Machine

namespace Sys2Proof

open Machine

/-- ADD clears N; SUB and CP set it. -/
def AluOp.flagRow : AluOp → FlagRow
  | .add => ⟨.computed, .zero, .computed, .computed⟩
  | .sub => ⟨.computed, .one, .computed, .computed⟩
  | .cp => ⟨.computed, .one, .computed, .computed⟩

/-- POP AF takes all four flags from memory. -/
def Pair.popRow : Pair → FlagRow
  | .bc => ⟨.kept, .kept, .kept, .kept⟩
  | .de => ⟨.kept, .kept, .kept, .kept⟩
  | .hl => ⟨.kept, .kept, .kept, .kept⟩
  | .af => ⟨.computed, .computed, .computed, .computed⟩

/-- The rows of R36. -/
def Form.flagRow : Form → FlagRow
  | .incR _ => ⟨.computed, .zero, .computed, .kept⟩
  | .decR _ => ⟨.computed, .one, .computed, .kept⟩
  | .aluR op _ => op.flagRow
  | .aluHl op => op.flagRow
  | .aluD8 op _ => op.flagRow
  | .rotA _ => ⟨.zero, .zero, .zero, .computed⟩
  | .cbRotR _ _ => ⟨.computed, .zero, .zero, .computed⟩
  | .cbRotHl _ => ⟨.computed, .zero, .zero, .computed⟩
  | .cbBitR _ _ => ⟨.computed, .zero, .one, .kept⟩
  | .cbBitHl _ => ⟨.computed, .zero, .one, .kept⟩
  | .pop p => p.popRow
  | .ldRR _ _ | .ldRHl _ | .ldHlR _ | .ldRD8 _ _ | .ldRrD16 _ _ | .incRr _ | .decRr _ | .ldRrA _ | .ldARr _
  | .jr _ | .jrCc _ _ | .push _ | .ret | .reti | .call _ | .prefixCb _ | .ldhA8A _ | .ldhAA8 _ | .ldCA | .ldAC
  | .ldA16A _ | .ldAA16 _ | .di | .ei | .noEntry _ | .noEntryCb _ => ⟨.kept, .kept, .kept, .kept⟩

end Sys2Proof

namespace Sys2Proof.Machine

/-! ## Interrupts -/

/-- Source i is pending and enabled (R221): its bit is 1 in IF and in IE. -/
def State.requests (s : State) (i : Source) : Prop :=
  (s.mem.read Config.ifAddr).getLsbD i.bit = true ∧ (s.mem.read Config.ieAddr).getLsbD i.bit = true

/-- The instruction whose bytes stand at PC (R99). -/
def State.instrAtPc (s : State) : Instr :=
  decodeBytes (s.mem.read s.pc) (s.mem.read (s.pc + 1#16)) (s.mem.read (s.pc + 2#16))

end Sys2Proof.Machine
end

