-- ==== Sys2Proof/Certificates/Slice0/Obligations.lean ====
section
/-! DEFINITION. The statements for the provers. A statement about a family speaks of every constructor of
`Instr` whose format (R91) is the one named; `exec` starts with PC past the instruction's own bytes (log 17).
`exec`, `step` and every operation written without parameters are those at the defaults of R8; a statement over
`P : Params` holds for every IME_RESET, VEC, COST, MEM, MEM_INIT and ENV. -/

open Sys2Proof Sys2Proof.Machine

/-! ## Encoding -/

/-- R90 to R96: decoding what the bit patterns of R91 encode gives the instruction back, with every operand and
whatever bytes follow. Only the bare prefix is left out, whose words are its second byte's row's (R202). -/
def Obligations.DecodeOfEncodeIsTheInstruction : Prop :=
  ∀ (i : Instr) (rest : List Byte), i.form.notBarePrefix = true → decode (encode i ++ rest) = .ok i rest

/-- The other way: the bytes an instruction was decoded from are its encoding, so every byte string has one
reading and no bit of an operand is dropped. -/
def Obligations.EncodeOfDecodeIsTheFetchedBytes : Prop :=
  ∀ op x y : Byte, encode (decodeBytes op x y) = [op, x, y].take (1 + operandCount op)

/-- R90, R91, R93, R95: a few words written out from the spec's encodings. The opcode bytes are the spec's general
knowledge, PRESUMED (G1, log 7); that E0 alone is rejected as truncated is no rule but an outcome of the model's
own decoder (log 13). -/
def Obligations.SpecEncodingsDecode : Prop :=
  decode [0x21#8, 0x34#8, 0x12#8] = .ok (.ld_HL_d16 0x1234#16) [] ∧
  decode [0x18#8, 0xFE#8] = .ok (.jr_i8 0xFE#8) [] ∧
  decode [0xCD#8, 0x50#8, 0x01#8] = .ok (.call_u16 0x0150#16) [] ∧
  decode [0xCB#8, 0x7C#8] = .ok .bit_7_H [] ∧
  decode [0x80#8] = .ok .add_A_B [] ∧
  decode [0x78#8] = .ok .ld_A_B [] ∧
  decode [0xF1#8, 0x00#8] = .ok .pop_AF [0x00#8] ∧
  decode [0xE0#8] = .rejected (.truncated 0xE0#8)

/-- R202: executing the bare prefix with a second byte is executing the prefixed table's entry for that byte; it
completes for every byte that has one and is the decode failure for the rest (R97's ranges, PRESUMED: G1, log 7). -/
def Obligations.PrefixExecutesTheEntryOfItsSecondByte : Prop :=
  ∀ (op2 : Byte) (s : State),
    exec (.prefixCB op2) s = exec (decodePrefixed op2) s ∧
    (¬noEntryPrefixedByte op2 → ∃ t, exec (.prefixCB op2) s = .next t) ∧
    (noEntryPrefixedByte op2 → exec (.prefixCB op2) s = .fault (.unimplementedOpcode true op2))

/-- R97, R210, R212: a step faults exactly on a byte with no entry, and then by that byte; it is never refused,
and otherwise completes, whatever the registers and memory hold; and the same under any VEC, COST and MEM, of the
bytes MEM answers. Which bytes have no entry is R97's list, whose values are PRESUMED (G1, log 7). -/
def Obligations.StepFaultsExactlyOnBytesWithoutEntry : Prop :=
  let exactly (run : State → Result) (op op2 : State → Byte) : Prop := ∀ s : State,
    (∀ r, run s = .fault r ↔
      (op s ∈ noEntryBaseBytes ∧ r = .unimplementedOpcode false (op s)) ∨
      (op s = 0xCB#8 ∧ noEntryPrefixedByte (op2 s) ∧ r = .unimplementedOpcode true (op2 s))) ∧
    (∀ r, run s ≠ .refused r) ∧
    ((¬∃ r, run s = .fault r) → ∃ t, run s = .next t)
  exactly step (fun s => s.mem.read s.pc) (fun s => s.mem.read (s.pc + 1#16)) ∧
  ∀ P : Params, exactly (fun s => stepWith s P) (fun s => (P.mem.read s.mem s.pc).1)
    (fun s => (P.mem.read (P.mem.read s.mem s.pc).2 (s.pc + 1#16)).1)

/-- R97, R210: each of the 262 rows with no entry stops, by name, in every state. -/
def Obligations.RowsWithoutEntryAreDecodeFailures : Prop :=
  ∀ (i : Instr) (byte : Byte) (s : State),
    (i.form = .noEntry byte → exec i s = .fault (.unimplementedOpcode false byte)) ∧
    (i.form = .noEntryCb byte → exec i s = .fault (.unimplementedOpcode true byte))

/-! ## The step, reset, the invariant -/

/-- R230: when the bytes at PC decode to an instruction, a step fetches exactly its bytes, in order, moves PC
past them, executes it, then charges the cost it reported, counts the EI delay and makes the interrupt check; so
under any VEC and COST too. `exec` and `step` are `execForm` and `stepWith` at the defaults of R8. -/
def Obligations.StepRunsTheDecodedInstruction : Prop :=
  let runs (P : Params) (ex : Instr → State → Result) (run : State → Result) : Prop :=
    ∀ (s : State) (i : Instr) (rest : List Byte),
      decode [s.mem.read s.pc, s.mem.read (s.pc + 1#16), s.mem.read (s.pc + 2#16)] = .ok i rest →
      run s =
        match ex i { s with
          pc := s.pc + BitVec.ofNat 16 (encode i).length
          port := (List.range (encode i).length).map
            (fun k => .read (s.pc + BitVec.ofNat 16 k) (s.mem.read (s.pc + BitVec.ofNat 16 k)))
          tcycles := 0 } with
        | .next t => .next (((t.charge t.tcycles P).eiDelayTick).interruptCheck P)
        | .fault r => .fault r
        | .refused r => .refused r
  runs Params.default exec step ∧
  (∀ P : Params, P.mem = Mem.flat → runs P (fun i s => execForm i.form s P) (fun s => stepWith s P)) ∧
  (∀ (i : Instr) (s : State), exec i s = execForm i.form s Params.default) ∧
  ∀ s : State, step s = stepWith s Params.default

/-- R8, R47, R250, R251: what reset leaves, for either IME_RESET and any memory; memory is not touched and no
transaction is issued. ACC and EI_DELAY are the spec's decision D14 (log 8); `port` and `tcycles` are the
model's (log 16); the value false for IME and the empty memory in `State.reset` are the model's (log 1, log 2). -/
def Obligations.ResetValues : Prop :=
  (∀ (ime : Bool) (m : Memory),
    let s := State.resetWith ime m
    (∀ r, s.reg r = 0x00#8) ∧ s.f = 0x00#8 ∧ s.pc = 0x0000#16 ∧ s.sp = 0x0000#16 ∧ s.ime = ime ∧ s.eiDelay = 0 ∧
      s.acc = 0x00#8 ∧ s.mem = m ∧ s.port = []) ∧
  (∀ P : Params, P.reset = State.resetWith P.imeReset P.memInit) ∧
  State.reset = Params.default.reset ∧ State.reset = State.resetWith false []

/-- R49 at reset, for either IME_RESET and any canonical memory; under any parameters, for whatever property
MEM_INIT has. -/
def Obligations.ResetMeetsInvariant : Prop :=
  (∀ (ime : Bool) (m : Memory), m.wf = true → (State.resetWith ime m).Inv) ∧ State.reset.Inv ∧
  ∀ (P : Params) (I : Memory → Prop), I P.memInit → P.reset.InvWith I

/-- R33, R41, R49: every step from every state that meets the invariant keeps it; under any VEC, COST and MEM, with
any property of memory that MEM keeps. -/
def Obligations.StepKeepsInvariant : Prop :=
  (∀ s t : State, s.Inv → step s = .next t → t.Inv) ∧
  ∀ (P : Params) (I : Memory → Prop), P.mem.Keeps I →
    ∀ s t : State, s.InvWith I → stepWith s P = .next t → t.InvWith I

/-- R49, R78: the invariant holds in every state that any run reaches, with other agents changing memory between
its steps; under any parameters, with any property of memory that MEM_INIT has and that MEM and ENV keep. -/
def Obligations.EveryReachableStateMeetsInvariant : Prop :=
  (∀ (ime : Bool) (m : Memory), m.wf = true → ∀ s, Reachable (Params.openFlat ime m) s → s.Inv) ∧
  ∀ (P : Params) (I : Memory → Prop), P.mem.Keeps I → I P.memInit → (∀ m n, I m → P.env m n → I n) →
    ∀ s, Reachable P s → s.InvWith I

/-! ## Memory and registers -/

/-- Two canonical memories that answer every read alike are equal data (R60: a memory is what it answers). -/
def Obligations.MemoriesThatReadAlikeAreEqual : Prop :=
  ∀ m n : Memory, m.wf = true → n.wf = true → (∀ a, m.read a = n.read a) → m = n

/-- R60, R61, with the flat memory, the default MEM: a write stores its byte, leaves every other address alone, and
keeps the canonical form; a read changes nothing. -/
def Obligations.ReadAfterWrite : Prop :=
  (∀ (m : Memory) (a : Word) (v : Byte), m.wf = true →
    (m.write a v).wf = true ∧ (m.write a v).read a = v ∧ ∀ b, b ≠ a → (m.write a v).read b = m.read b) ∧
  ∀ (m : Memory) (a : Word) (v : Byte),
    Params.default.mem.read m a = (m.read a, m) ∧ Params.default.mem.write m a v = m.write a v

/-- R30: the seven operand registers are independent: a write changes its own and nothing else. -/
def Obligations.RegisterWritesAreIndependent : Prop :=
  ∀ (r : Reg8) (v : Byte) (s : State),
    (s.setReg r v).reg r = v ∧ (∀ q, q ≠ r → (s.setReg r v).reg q = s.reg q) ∧
    ∃ x y z w u k n, s.setReg r v = { s with a := x, b := y, c := z, d := w, e := u, h := k, l := n }

/-- R32: a pair is its two registers, the first-named in the high byte; setting it sets both, and of AF's low
byte only the flag nibble is kept; reading a pair and writing it back changes nothing. -/
def Obligations.PairsAreTwoRegisters : Prop :=
  ∀ (s : State) (w : Word),
    (s.pair .af).toNat = s.a.toNat * 256 + s.f.toNat ∧ (s.pair .bc).toNat = s.b.toNat * 256 + s.c.toNat ∧
    (s.pair .de).toNat = s.d.toNat * 256 + s.e.toNat ∧ (s.pair .hl).toNat = s.h.toNat * 256 + s.l.toNat ∧
    s.setPair .bc w = { s with b := BitVec.ofNat 8 (w.toNat / 256), c := BitVec.ofNat 8 (w.toNat % 256) } ∧
    s.setPair .de w = { s with d := BitVec.ofNat 8 (w.toNat / 256), e := BitVec.ofNat 8 (w.toNat % 256) } ∧
    s.setPair .hl w = { s with h := BitVec.ofNat 8 (w.toNat / 256), l := BitVec.ofNat 8 (w.toNat % 256) } ∧
    s.setPair .af w =
      { s with a := BitVec.ofNat 8 (w.toNat / 256), f := BitVec.ofNat 8 (w.toNat % 256) &&& 0xF0#8 } ∧
    ∀ p, s.f &&& 0x0F#8 = 0#8 → s.setPair p (s.pair p) = s

/-- R35: the flag primitives for any mask inside 0xF0, on an F whose low nibble is 0, and the single-bit
assignment of each flag through them. -/
def Obligations.FlagPrimitives : Prop :=
  ∀ (s : State) (m : Byte), s.f &&& 0x0F#8 = 0#8 → m &&& 0x0F#8 = 0#8 →
    s.setFlags m = { s with f := s.f ||| m } ∧
    s.resetFlags m = { s with f := s.f &&& ~~~m } ∧
    (s.testFlags m = true ↔ ∀ k, m.getLsbD k = true → s.f.getLsbD k = true) ∧
    s.writeFlag m true = s.setFlags m ∧ s.writeFlag m false = s.resetFlags m ∧
    s.flagZ = s.f.getLsbD 7 ∧ s.flagN = s.f.getLsbD 6 ∧ s.flagH = s.f.getLsbD 5 ∧ s.flagC = s.f.getLsbD 4

/-- R64, R65: a fetch reads the byte at PC and moves PC past it, wrapping; a 16-bit fetch is two of them, the low
byte first; with any MEM. -/
def Obligations.Fetch16ReadsLowByteFirst : Prop :=
  ∀ (P : Params) (s : State),
    let lo := P.mem.read s.mem s.pc
    let hi := P.mem.read lo.2 (s.pc + 1#16)
    s.fetch8 P = (lo.1, { s with pc := s.pc + 1#16, mem := lo.2, port := s.port ++ [.read s.pc lo.1] }) ∧
    (s.fetch16 P).1.toNat = hi.1.toNat * 256 + lo.1.toNat ∧
    (s.fetch16 P).2 = { s with
      pc := s.pc + 2#16
      mem := hi.2
      port := s.port ++ [.read s.pc lo.1, .read (s.pc + 1#16) hi.1] } ∧
    (0xFFFF#16 + 1#16 : Word) = 0x0000#16

/-- R66: a push writes the high byte to SP-1, then the low byte to SP-2, and leaves SP 2 lower, wrapping, with any
MEM; after it, with the flat memory, the byte at SP is the low byte and the byte at SP+1 the high byte. -/
def Obligations.Push16LaysHighByteAbove : Prop :=
  ∀ (P : Params) (s : State) (w : Word),
    let hi := BitVec.ofNat 8 (w.toNat / 256)
    let lo := BitVec.ofNat 8 (w.toNat % 256)
    let t := s.push16 w P
    t = { s with
      sp := s.sp - 2#16
      mem := P.mem.write (P.mem.write s.mem (s.sp - 1#16) hi) (s.sp - 2#16) lo
      port := s.port ++ [.write (s.sp - 1#16) hi, .write (s.sp - 2#16) lo] } ∧
    (P.mem = Mem.flat → s.mem.wf = true →
      (t.mem.read t.sp).toNat = w.toNat % 256 ∧ (t.mem.read (t.sp + 1#16)).toNat = w.toNat / 256 ∧
      ∀ a, a ≠ t.sp → a ≠ t.sp + 1#16 → t.mem.read a = s.mem.read a)

/-- R67: a pop reads the low byte at SP, then the high byte at SP+1, and leaves SP 2 higher, with any MEM; with the
flat memory, after a push of w, in any state with SP and those two bytes as the push left them, it gives w back and
restores SP. -/
def Obligations.Pop16UndoesPush16 : Prop :=
  (∀ (P : Params) (s : State),
    let lo := P.mem.read s.mem s.sp
    let hi := P.mem.read lo.2 (s.sp + 1#16)
    (s.pop16 P).1.toNat = hi.1.toNat * 256 + lo.1.toNat ∧
    (s.pop16 P).2 = { s with
      sp := s.sp + 2#16
      mem := hi.2
      port := s.port ++ [.read s.sp lo.1, .read (s.sp + 1#16) hi.1] }) ∧
  ∀ (s v : State) (w : Word), s.mem.wf = true → v.sp = (s.push16 w).sp →
    v.mem.read v.sp = (s.push16 w).mem.read v.sp →
    v.mem.read (v.sp + 1#16) = (s.push16 w).mem.read (v.sp + 1#16) → v.pop16.1 = w ∧ v.pop16.2.sp = s.sp

/-! ## The functions of the ALU -/

/-- R145. -/
def Obligations.Add8 : Prop :=
  ∀ a b : Byte,
    (add8 a b).res.toNat = (a.toNat + b.toNat) % 256 ∧ ((add8 a b).z = true ↔ (add8 a b).res.toNat = 0) ∧
    (add8 a b).n = false ∧ ((add8 a b).h = true ↔ a.toNat % 16 + b.toNat % 16 > 15) ∧
    ((add8 a b).c = true ↔ a.toNat + b.toNat > 255)

/-- R146: h and c are borrows; z is 1 exactly when the operands are equal, and then h and c are 0. -/
def Obligations.Sub8 : Prop :=
  ∀ a b : Byte,
    (sub8 a b).res.toNat = (a.toNat + 256 - b.toNat) % 256 ∧ ((sub8 a b).z = true ↔ (sub8 a b).res.toNat = 0) ∧
    (sub8 a b).n = true ∧ ((sub8 a b).h = true ↔ a.toNat % 16 < b.toNat % 16) ∧
    ((sub8 a b).c = true ↔ b.toNat > a.toNat) ∧ ((sub8 a b).z = true ↔ a = b) ∧
    (a = b → (sub8 a b).h = false ∧ (sub8 a b).c = false)

/-- R160: where each bit goes and which comes out; eight plain rotates restore the byte, nine rotates through
carry restore the byte and the carry. That L is toward bit 7 and R toward bit 0 is PRESUMED (G5, log 19). -/
def Obligations.RotateFunctions : Prop :=
  (∀ (v : Byte) (cin : Bool),
    ((rlc8 v).2 = v.getLsbD 7 ∧ (rlc8 v).1.getLsbD 0 = v.getLsbD 7 ∧
      ∀ k < 7, (rlc8 v).1.getLsbD (k + 1) = v.getLsbD k) ∧
    ((rrc8 v).2 = v.getLsbD 0 ∧ (rrc8 v).1.getLsbD 7 = v.getLsbD 0 ∧
      ∀ k < 7, (rrc8 v).1.getLsbD k = v.getLsbD (k + 1)) ∧
    ((rl8 v cin).2 = v.getLsbD 7 ∧ (rl8 v cin).1.getLsbD 0 = cin ∧
      ∀ k < 7, (rl8 v cin).1.getLsbD (k + 1) = v.getLsbD k) ∧
    ((rr8 v cin).2 = v.getLsbD 0 ∧ (rr8 v cin).1.getLsbD 7 = cin ∧
      ∀ k < 7, (rr8 v cin).1.getLsbD k = v.getLsbD (k + 1))) ∧
  (∀ v : Byte, (fun x => (rlc8 x).1)^[8] v = v ∧ (fun x => (rrc8 x).1)^[8] v = v) ∧
  ∀ (v : Byte) (cin : Bool), (fun p => rl8 p.1 p.2)^[9] (v, cin) = (v, cin) ∧
    (fun p => rr8 p.1 p.2)^[9] (v, cin) = (v, cin)

/-- R12: the two extensions of a byte. -/
def Obligations.Extensions : Prop :=
  ∀ b : Byte, (zext16 b).toNat = b.toNat ∧
    (sext16 b).toNat = if b.toNat < 128 then b.toNat else b.toNat + 0xFF00

/-! ## Loads and stores -/

/-- R120, R121: a register takes an immediate byte or another register; nothing else changes. The costs are
COST's defaults (log 6). -/
def Obligations.LoadRegisterFromByteOrRegister : Prop :=
  ∀ (i : Instr) (dst src : Reg8) (d8 : Byte) (s : State),
    (i.form = .ldRD8 dst d8 → exec i s = .next { s.setReg dst d8 with tcycles := 8 }) ∧
    (i.form = .ldRR dst src → exec i s = .next { s.setReg dst (s.reg src) with tcycles := 4 })

/-- R122 to R124, R191, R193, R195: a register takes the memory byte at the address the form names; one read, the
address from the registers as they were. The costs are COST's defaults (log 6). -/
def Obligations.LoadRegisterFromMemory : Prop :=
  ∀ (i : Instr) (dst : Reg8) (a8 : Byte) (a16 : Word) (s : State),
    let loaded (r : Reg8) (addr : Word) (cost : Nat) : State :=
      { s.setReg r (s.mem.read addr) with port := s.port ++ [.read addr (s.mem.read addr)], tcycles := cost }
    (i.form = .ldRHl dst → exec i s = .next (loaded dst (join16 s.h s.l) 8)) ∧
    (i.form = .ldARr .bc → exec i s = .next (loaded .a (join16 s.b s.c) 8)) ∧
    (i.form = .ldARr .de → exec i s = .next (loaded .a (join16 s.d s.e) 8)) ∧
    (i.form = .ldhAA8 a8 → exec i s = .next (loaded .a (join16 0xFF#8 a8) 12)) ∧
    (i.form = .ldAC → exec i s = .next (loaded .a (join16 0xFF#8 s.c) 8)) ∧
    (i.form = .ldAA16 a16 → exec i s = .next (loaded .a a16 16))

/-- R125 to R127, R190, R192, R194: a register is stored to the memory byte at the address the form names; one
write, and no register changes. The costs are COST's defaults (log 6). -/
def Obligations.StoreRegisterToMemory : Prop :=
  ∀ (i : Instr) (src : Reg8) (a8 : Byte) (a16 : Word) (s : State),
    let stored (addr : Word) (v : Byte) (cost : Nat) : State :=
      { s with mem := s.mem.write addr v, port := s.port ++ [.write addr v], tcycles := cost }
    (i.form = .ldHlR src → exec i s = .next (stored (join16 s.h s.l) (s.reg src) 8)) ∧
    (i.form = .ldRrA .bc → exec i s = .next (stored (join16 s.b s.c) s.a 8)) ∧
    (i.form = .ldRrA .de → exec i s = .next (stored (join16 s.d s.e) s.a 8)) ∧
    (i.form = .ldhA8A a8 → exec i s = .next (stored (join16 0xFF#8 a8) s.a 12)) ∧
    (i.form = .ldCA → exec i s = .next (stored (join16 0xFF#8 s.c) s.a 8)) ∧
    (i.form = .ldA16A a16 → exec i s = .next (stored a16 s.a 16))

/-- R130, R131: the pair's first register takes the high byte, its second the low byte; SP the whole word. -/
def Obligations.LoadImmediateWord : Prop :=
  ∀ (i : Instr) (d16 : Word) (s : State),
    (i.form = .ldRrD16 .bc d16 → exec i s = .next { s with b := hi8 d16, c := lo8 d16, tcycles := 12 }) ∧
    (i.form = .ldRrD16 .de d16 → exec i s = .next { s with d := hi8 d16, e := lo8 d16, tcycles := 12 }) ∧
    (i.form = .ldRrD16 .hl d16 → exec i s = .next { s with h := hi8 d16, l := lo8 d16, tcycles := 12 }) ∧
    (i.form = .ldRrD16 .sp d16 → exec i s = .next { s with sp := d16, tcycles := 12 })

/-! ## Increment and decrement -/

/-- R135, with C1: Hf from the operand's low nibble, Cy kept, nothing else changed. -/
def Obligations.IncrementRegister : Prop :=
  ∀ (i : Instr) (r : Reg8) (s : State), i.form = .incR r →
    exec i s = .next { s.setReg r (s.reg r + 1#8) with
      f := flagByte (decide (s.reg r = 0xFF#8)) false (decide ((s.reg r).toNat % 16 = 15)) s.flagC
      tcycles := 4 }

/-- R136: Hf from the operand's low nibble, Cy kept, nothing else changed. -/
def Obligations.DecrementRegister : Prop :=
  ∀ (i : Instr) (r : Reg8) (s : State), i.form = .decR r →
    exec i s = .next { s.setReg r (s.reg r - 1#8) with
      f := flagByte (decide (s.reg r = 0x01#8)) true (decide ((s.reg r).toNat % 16 = 0)) s.flagC
      tcycles := 4 }

/-- R141: INC then DEC, and DEC then INC, give the register back; Z, N and Hf are those of the second, Cy is as
before the pair. -/
def Obligations.IncrementAndDecrementUndoEachOther : Prop :=
  ∀ (i j : Instr) (r : Reg8) (s t u : State), i.form = .incR r → j.form = .decR r →
    (exec i s = .next t → exec j t = .next u →
      u.reg r = s.reg r ∧ u.flagZ = decide (s.reg r = 0#8) ∧ u.flagN = true ∧
        u.flagH = decide ((s.reg r + 1#8) &&& 0x0F#8 = 0#8) ∧ u.flagC = s.flagC) ∧
    (exec j s = .next t → exec i t = .next u →
      u.reg r = s.reg r ∧ u.flagZ = decide (s.reg r = 0#8) ∧ u.flagN = false ∧
        u.flagH = decide ((s.reg r - 1#8) &&& 0x0F#8 = 0x0F#8) ∧ u.flagC = s.flagC)

/-- R137 to R140: the 16-bit forms add or subtract one modulo 65536 and write no flag. -/
def Obligations.IncrementAndDecrementWord : Prop :=
  ∀ (i : Instr) (s : State),
    let bc (w : Word) : State := { s with b := hi8 w, c := lo8 w, tcycles := 8 }
    let de (w : Word) : State := { s with d := hi8 w, e := lo8 w, tcycles := 8 }
    let hl (w : Word) : State := { s with h := hi8 w, l := lo8 w, tcycles := 8 }
    (i.form = .incRr .bc → exec i s = .next (bc (join16 s.b s.c + 1#16))) ∧
    (i.form = .incRr .de → exec i s = .next (de (join16 s.d s.e + 1#16))) ∧
    (i.form = .incRr .hl → exec i s = .next (hl (join16 s.h s.l + 1#16))) ∧
    (i.form = .incRr .sp → exec i s = .next { s with sp := s.sp + 1#16, tcycles := 8 }) ∧
    (i.form = .decRr .bc → exec i s = .next (bc (join16 s.b s.c - 1#16))) ∧
    (i.form = .decRr .de → exec i s = .next (de (join16 s.d s.e - 1#16))) ∧
    (i.form = .decRr .hl → exec i s = .next (hl (join16 s.h s.l - 1#16))) ∧
    (i.form = .decRr .sp → exec i s = .next { s with sp := s.sp - 1#16, tcycles := 8 })

/-! ## Add, subtract, compare -/

/-- R147 to R149: A takes the sum modulo 256; all four flags from the operands as they were. -/
def Obligations.AddToAccumulator : Prop :=
  ∀ (i : Instr) (src : Reg8) (d8 : Byte) (s : State),
    let sum (x : Byte) (p : List Access) (cost : Nat) : State :=
      { s with
        a := s.a + x
        f := flagByte (decide ((s.a.toNat + x.toNat) % 256 = 0)) false
          (decide (s.a.toNat % 16 + x.toNat % 16 > 15)) (decide (s.a.toNat + x.toNat > 255))
        port := s.port ++ p
        tcycles := cost }
    let hl := join16 s.h s.l
    (i.form = .aluR .add src → exec i s = .next (sum (s.reg src) [] 4)) ∧
    (i.form = .aluHl .add → exec i s = .next (sum (s.mem.read hl) [.read hl (s.mem.read hl)] 8)) ∧
    (i.form = .aluD8 .add d8 → exec i s = .next (sum d8 [] 8))

/-- R150 to R152: A takes the difference modulo 256; Hf and Cy are borrows. -/
def Obligations.SubtractFromAccumulator : Prop :=
  ∀ (i : Instr) (src : Reg8) (d8 : Byte) (s : State),
    let diff (x : Byte) (p : List Access) (cost : Nat) : State :=
      { s with
        a := s.a - x
        f := flagByte (decide (s.a = x)) true (decide (s.a.toNat % 16 < x.toNat % 16)) (decide (s.a.toNat < x.toNat))
        port := s.port ++ p
        tcycles := cost }
    let hl := join16 s.h s.l
    (i.form = .aluR .sub src → exec i s = .next (diff (s.reg src) [] 4)) ∧
    (i.form = .aluHl .sub → exec i s = .next (diff (s.mem.read hl) [.read hl (s.mem.read hl)] 8)) ∧
    (i.form = .aluD8 .sub d8 → exec i s = .next (diff d8 [] 8))

/-- R153 to R155: only the flags of the subtraction; A is unchanged. -/
def Obligations.CompareAccumulator : Prop :=
  ∀ (i : Instr) (src : Reg8) (d8 : Byte) (s : State),
    let compared (x : Byte) (p : List Access) (cost : Nat) : State :=
      { s with
        f := flagByte (decide (s.a = x)) true (decide (s.a.toNat % 16 < x.toNat % 16)) (decide (s.a.toNat < x.toNat))
        port := s.port ++ p
        tcycles := cost }
    let hl := join16 s.h s.l
    (i.form = .aluR .cp src → exec i s = .next (compared (s.reg src) [] 4)) ∧
    (i.form = .aluHl .cp → exec i s = .next (compared (s.mem.read hl) [.read hl (s.mem.read hl)] 8)) ∧
    (i.form = .aluD8 .cp d8 → exec i s = .next (compared d8 [] 8))

/-! ## Rotates and bit test -/

/-- R161, R162: A rotates through carry; Z, N and Hf are 0 whatever the result. That RLA moves toward bit 7 and RRA
toward bit 0 is PRESUMED (G5, log 19). -/
def Obligations.RotateAccumulatorThroughCarry : Prop :=
  ∀ (i : Instr) (s : State),
    (i.form = .rotA .left → ∃ x, (∀ k < 7, x.getLsbD (k + 1) = s.a.getLsbD k) ∧ x.getLsbD 0 = s.flagC ∧
      exec i s = .next { s with a := x, f := flagByte false false false (s.a.getLsbD 7), tcycles := 4 }) ∧
    (i.form = .rotA .right → ∃ x, (∀ k < 7, x.getLsbD k = s.a.getLsbD (k + 1)) ∧ x.getLsbD 7 = s.flagC ∧
      exec i s = .next { s with a := x, f := flagByte false false false (s.a.getLsbD 0), tcycles := 4 })

/-- R163, R165, R167, R169: the register takes its rotation; Z from the result, N and Hf 0, Cy the bit out.
The cost is the prefix's 4 and COST's default (log 6). -/
def Obligations.RotateRegister : Prop :=
  ∀ (i : Instr) (r : Reg8) (s : State),
    let rotated (x : Byte × Bool) : State :=
      { s.setReg r x.1 with f := flagByte (decide (x.1 = 0#8)) false false x.2, tcycles := 8 }
    (i.form = .cbRotR .rlc r → exec i s = .next (rotated (rlc8 (s.reg r)))) ∧
    (i.form = .cbRotR .rrc r → exec i s = .next (rotated (rrc8 (s.reg r)))) ∧
    (i.form = .cbRotR .rl r → exec i s = .next (rotated (rl8 (s.reg r) s.flagC))) ∧
    (i.form = .cbRotR .rr r → exec i s = .next (rotated (rr8 (s.reg r) s.flagC)))

/-- R164, R166, R168, R170: the memory byte at HL takes its rotation by one read and one write of the same
address, made even when the byte does not change. -/
def Obligations.RotateMemory : Prop :=
  ∀ (i : Instr) (s : State),
    let hl := join16 s.h s.l
    let v := s.mem.read hl
    let rotated (x : Byte × Bool) : State :=
      { s with
        f := flagByte (decide (x.1 = 0#8)) false false x.2
        mem := s.mem.write hl x.1
        port := s.port ++ [.read hl v, .write hl x.1]
        tcycles := 16 }
    (i.form = .cbRotHl .rlc → exec i s = .next (rotated (rlc8 v))) ∧
    (i.form = .cbRotHl .rrc → exec i s = .next (rotated (rrc8 v))) ∧
    (i.form = .cbRotHl .rl → exec i s = .next (rotated (rl8 v s.flagC))) ∧
    (i.form = .cbRotHl .rr → exec i s = .next (rotated (rr8 v s.flagC)))

/-- R172, R173: Z is the complement of the bit, N 0, Hf 1, Cy kept; nothing but F changes, and memory is only
read. -/
def Obligations.BitTest : Prop :=
  ∀ (i : Instr) (n : Fin 8) (r : Reg8) (s : State),
    let hl := join16 s.h s.l
    (i.form = .cbBitR n r →
      exec i s = .next { s with f := flagByte (!(s.reg r).getLsbD n) false true s.flagC, tcycles := 8 }) ∧
    (i.form = .cbBitHl n →
      exec i s = .next { s with
        f := flagByte (!(s.mem.read hl).getLsbD n) false true s.flagC
        port := s.port ++ [.read hl (s.mem.read hl)]
        tcycles := 12 })

/-! ## Control transfer and the stack -/

/-- R175: the target is PC, past the offset byte, plus the signed offset, modulo 65536; no flag is written. -/
def Obligations.JumpRelative : Prop :=
  ∀ (i : Instr) (i8 : Byte) (s : State), i.form = .jr i8 →
    exec i s = .next { s with pc := BitVec.ofInt 16 (s.pc.toNat + i8.toInt), tcycles := 12 }

/-- R176: taken or not by one flag, with its two costs; not taken, nothing but the report changes. -/
def Obligations.JumpRelativeOnCondition : Prop :=
  ∀ (i : Instr) (cc : Cond) (i8 : Byte) (s : State), i.form = .jrCc cc i8 →
    let cond := match cc with
      | .nz => s.f.getLsbD 7 = false
      | .z => s.f.getLsbD 7 = true
      | .nc => s.f.getLsbD 4 = false
      | .c => s.f.getLsbD 4 = true
    (cond → exec i s = .next { s with pc := BitVec.ofInt 16 (s.pc.toNat + i8.toInt), tcycles := 12 }) ∧
    (¬cond → exec i s = .next { s with tcycles := 8 })

/-- R180: the return address, PC past the operand bytes, goes to SP-1 (high) and SP-2 (low); PC to the operand. -/
def Obligations.CallPushesReturnAddress : Prop :=
  ∀ (i : Instr) (u16 : Word) (s : State), i.form = .call u16 →
    exec i s = .next { s with
      pc := u16
      sp := s.sp - 2#16
      mem := (s.mem.write (s.sp - 1#16) (hi8 s.pc)).write (s.sp - 2#16) (lo8 s.pc)
      port := s.port ++ [.write (s.sp - 1#16) (hi8 s.pc), .write (s.sp - 2#16) (lo8 s.pc)]
      tcycles := 24 }

/-- R181: PC takes the word at SP, SP rises by 2; IME is not touched. -/
def Obligations.ReturnPopsPc : Prop :=
  ∀ (i : Instr) (s : State), i.form = .ret →
    exec i s = .next { s with
      pc := join16 (s.mem.read (s.sp + 1#16)) (s.mem.read s.sp)
      sp := s.sp + 2#16
      port := s.port ++ [.read s.sp (s.mem.read s.sp), .read (s.sp + 1#16) (s.mem.read (s.sp + 1#16))]
      tcycles := 16 }

/-- R182: as RET, and IME is 1 at once, a pending EI forgotten (the spec's decision D11, log 10). -/
def Obligations.ReturnFromInterruptSetsIme : Prop :=
  ∀ (i : Instr) (s : State), i.form = .reti →
    exec i s = .next { s with
      pc := join16 (s.mem.read (s.sp + 1#16)) (s.mem.read s.sp)
      sp := s.sp + 2#16
      ime := true
      eiDelay := 0
      port := s.port ++ [.read s.sp (s.mem.read s.sp), .read (s.sp + 1#16) (s.mem.read (s.sp + 1#16))]
      tcycles := 16 }

/-- R183: the pair's high register goes to SP-1, its low register to SP-2. -/
def Obligations.PushStoresPair : Prop :=
  ∀ (i : Instr) (s : State),
    let pushed (hi lo : Byte) : State :=
      { s with
        sp := s.sp - 2#16
        mem := (s.mem.write (s.sp - 1#16) hi).write (s.sp - 2#16) lo
        port := s.port ++ [.write (s.sp - 1#16) hi, .write (s.sp - 2#16) lo]
        tcycles := 16 }
    (i.form = .push .bc → exec i s = .next (pushed s.b s.c)) ∧
    (i.form = .push .de → exec i s = .next (pushed s.d s.e)) ∧
    (i.form = .push .hl → exec i s = .next (pushed s.h s.l)) ∧
    (i.form = .push .af → exec i s = .next (pushed s.a s.f))

/-- R184: the low register takes the byte at SP, the high register the byte at SP+1; F keeps only bits 7..4. -/
def Obligations.PopLoadsPair : Prop :=
  ∀ (i : Instr) (s : State),
    let lo := s.mem.read s.sp
    let hi := s.mem.read (s.sp + 1#16)
    let u : State := { s with
      sp := s.sp + 2#16
      port := s.port ++ [.read s.sp lo, .read (s.sp + 1#16) hi]
      tcycles := 12 }
    (i.form = .pop .bc → exec i s = .next { u with b := hi, c := lo }) ∧
    (i.form = .pop .de → exec i s = .next { u with d := hi, e := lo }) ∧
    (i.form = .pop .hl → exec i s = .next { u with h := hi, l := lo }) ∧
    (i.form = .pop .af → exec i s = .next { u with a := hi, f := lo &&& 0xF0#8 })

/-- R180, R181 (law W4): a RET, executed wherever PC then is, with SP and the two stack bytes as the CALL left
them, restores PC to the CALL's return address and SP to its value before the CALL. -/
def Obligations.ReturnUndoesCall : Prop :=
  ∀ (i j : Instr) (u16 : Word) (s t v w : State), i.form = .call u16 → j.form = .ret → s.mem.wf = true →
    exec i s = .next t → v.sp = t.sp → v.mem.read t.sp = t.mem.read t.sp →
    v.mem.read (t.sp + 1#16) = t.mem.read (t.sp + 1#16) → exec j v = .next w → w.pc = s.pc ∧ w.sp = s.sp

/-! ## DI and EI -/

/-- R200, R201: DI clears IME and EI_DELAY at once; EI starts the delay only where none is pending and does not
write IME (the spec's decision D12, log 9). -/
def Obligations.InterruptEnableToggles : Prop :=
  ∀ (i : Instr) (s : State),
    (i.form = .di → exec i s = .next { s with ime := false, eiDelay := 0, tcycles := 4 }) ∧
    (i.form = .ei → s.eiDelay = 0 → exec i s = .next { s with eiDelay := 2, tcycles := 4 }) ∧
    (i.form = .ei → s.eiDelay ≠ 0 → exec i s = .next { s with tcycles := 4 })

/-! ## Frames over the whole instruction set -/

/-- R36, as a table: each format writes each flag as its row says, and a format whose row keeps all four leaves
F alone; under any parameters. -/
def Obligations.FlagsAreWrittenAsTheTableSays : Prop :=
  let frame (f : Form) (s t : State) : Prop :=
    let row := f.entry.flagRow
    row.z.allows s.flagZ t.flagZ ∧ row.n.allows s.flagN t.flagN ∧ row.h.allows s.flagH t.flagH ∧
    row.c.allows s.flagC t.flagC ∧ (row = ⟨.kept, .kept, .kept, .kept⟩ → t.f = s.f)
  (∀ (i : Instr) (s t : State), exec i s = .next t → frame i.form s t) ∧
  ∀ (P : Params) (f : Form) (s t : State), execForm f s P = .next t → frame f s t

/-- Every register but the format's destinations is unchanged; under any parameters. -/
def Obligations.OnlyDestinationRegistersChange : Prop :=
  let frame (f : Form) (s t : State) : Prop := ∀ r, r ∉ f.entry.dest → t.reg r = s.reg r
  (∀ (i : Instr) (s t : State), exec i s = .next t → frame i.form s t) ∧
  ∀ (P : Params) (f : Form) (s t : State), execForm f s P = .next t → frame f s t

/-- Every memory byte but those the format stores to is unchanged; a format that stores nothing changes none; with
the flat memory and any VEC and COST. -/
def Obligations.OnlyStoredBytesChange : Prop :=
  let frame (f : Form) (s t : State) : Prop :=
    (∀ a, a ∉ f.entry.storedAddrs s → t.mem.read a = s.mem.read a) ∧
    (f.entry.storedAddrs s = [] → t.mem = s.mem)
  (∀ (i : Instr) (s t : State), s.mem.wf = true → exec i s = .next t → frame i.form s t) ∧
  ∀ (P : Params) (f : Form) (s t : State), P.mem = Mem.flat → s.mem.wf = true → execForm f s P = .next t →
    frame f s t

/-- R38 to R42: executing an instruction moves SP, sets PC, writes IME or EI_DELAY only in the formats the rules
name, and never touches ACC; under any parameters. -/
def Obligations.SpecialStateChangesOnlyByItsWriters : Prop :=
  let frame (f : Form) (s t : State) : Prop :=
    (f.entry.mayMoveSp = false → t.sp = s.sp) ∧
    (f.entry.setsPc = false → t.pc = s.pc) ∧
    (f.entry.writesIme = false → t.ime = s.ime ∧ t.eiDelay = s.eiDelay) ∧
    t.acc = s.acc
  (∀ (i : Instr) (s t : State), exec i s = .next t → frame i.form s t) ∧
  ∀ (P : Params) (f : Form) (s t : State), execForm f s P = .next t → frame f s t

/-- R77, phase 2: the transactions of each format's execution, after its fetches: the reads, then the writes, at
the addresses of the table, and no others. R69, R73: with any MEM an execution, and a whole step, reaches memory by
its transactions alone, each read taking the byte MEM then gives. -/
def Obligations.ExecutionIssuesTheListedTransactions : Prop :=
  let listed (f : Form) (s : State) : List AccessKind :=
    (f.entry.loadedAddrs s).map .reads ++ (f.entry.storedAddrs s).map .writes
  (∀ (i : Instr) (s t : State), exec i s = .next t →
    t.port.map Access.kind = s.port.map Access.kind ++ listed i.form s) ∧
  (∀ (P : Params) (f : Form) (s t : State), execForm f s P = .next t →
    ∃ l, t.port = s.port ++ l ∧ l.map Access.kind = listed f s ∧ P.mem.Plays s.mem l t.mem) ∧
  ∀ (P : Params) (s t : State), stepWith s P = .next t → P.mem.Plays s.mem t.port t.mem

/-- R265: no instruction's effect depends on the cycle accumulator, under any parameters. -/
def Obligations.ExecutionDoesNotReadTheAccumulator : Prop :=
  let blind (run : State → Result) : Prop := ∀ (s : State) (x : Byte),
    run { s with acc := x } =
      match run s with
      | .next t => .next { t with acc := x }
      | .fault r => .fault r
      | .refused r => .refused r
  (∀ i : Instr, blind (exec i)) ∧ ∀ (P : Params) (f : Form), blind (fun s => execForm f s P)

/-! ## Timer and interrupts -/

/-- R232, R234: a charge of n T-cycles ticks DIV at most once, when ACC passes 255, by a read and a write of MEM, and
keeps the remainder; with the flat memory the 16-bit count DIV, ACC advances by exactly n modulo 65536. -/
def Obligations.ChargeAdvancesTheDividerCount : Prop :=
  ∀ (P : Params) (s : State) (n : Nat), n ≤ 255 →
    let div := P.mem.read s.mem 0xFF04#16
    (s.acc.toNat + n ≤ 255 → s.charge n P = { s with acc := s.acc + BitVec.ofNat 8 n }) ∧
    (255 < s.acc.toNat + n →
      s.charge n P = { s with
        acc := BitVec.ofNat 8 (s.acc.toNat + n - 256)
        mem := P.mem.write div.2 0xFF04#16 (div.1 + 1#8)
        port := s.port ++ [.read 0xFF04#16 div.1, .write 0xFF04#16 (div.1 + 1#8)] }) ∧
    (P.mem = Mem.flat → s.mem.wf = true →
      ((s.charge n P).mem.read 0xFF04#16).toNat * 256 + (s.charge n P).acc.toNat =
        (div.1.toNat * 256 + s.acc.toNat + n) % 65536)

/-- R231 (decision D12, log 9): a pending EI counts down, and IME becomes 1 when the count reaches 0. -/
def Obligations.EiDelayTick : Prop :=
  ∀ s : State,
    (s.eiDelay = 0 → s.eiDelayTick = s) ∧
    (s.eiDelay = 1 → s.eiDelayTick = { s with eiDelay := 0, ime := true }) ∧
    (s.eiDelay = 2 → s.eiDelayTick = { s with eiDelay := 1 })

/-- R222 to R224: with IME 0 nothing is read; with IME 1 and no request IF and IE are read; with a request the one
of lowest bit number is dispatched: IME and EI_DELAY cleared, its IF bit cleared and the other seven written back
as read, PC pushed, PC at its vector, 20 T-cycles reported and charged (D12, D16, D17, D20); for any VEC, COST
and MEM. -/
def Obligations.InterruptCheckDispatchesTheLowestRequest : Prop :=
  ∀ (P : Params) (s : State),
    let ifv := P.mem.read s.mem 0xFF0F#16
    let iev := P.mem.read ifv.2 0xFFFF#16
    let requests (i : Source) : Prop := ifv.1.getLsbD i.bit = true ∧ iev.1.getLsbD i.bit = true
    (s.ime = false → s.interruptCheck P = s) ∧
    (s.ime = true → (∀ i, ¬requests i) →
      s.interruptCheck P = { s with
        mem := iev.2
        port := s.port ++ [.read 0xFF0F#16 ifv.1, .read 0xFFFF#16 iev.1] }) ∧
    ∀ i : Source, s.ime = true → requests i → (∀ j : Source, j.bit < i.bit → ¬requests j) →
      ∃ v : Byte, (∀ k < 8, v.getLsbD k = (ifv.1.getLsbD k && decide (k ≠ i.bit))) ∧
        s.interruptCheck P = State.charge 20 { s with
          ime := false
          eiDelay := 0
          pc := P.vec i
          sp := s.sp - 2#16
          mem := P.mem.write (P.mem.write (P.mem.write iev.2 0xFF0F#16 v) (s.sp - 1#16) (hi8 s.pc)) (s.sp - 2#16)
            (lo8 s.pc)
          port := s.port ++ [.read 0xFF0F#16 ifv.1, .read 0xFFFF#16 iev.1, .write 0xFF0F#16 v,
            .write (s.sp - 1#16) (hi8 s.pc), .write (s.sp - 2#16) (lo8 s.pc)]
          tcycles := s.tcycles + 20 } P

/-- R40, over whole steps: IME rises only by RETI or by the pending EI of the step before; it falls only by DI
or by a dispatch, which leaves PC at a vector and SP 2 lower than the instruction left it; under any VEC and COST.
That RETI sets IME at once and that EI's delay is a count are the spec's decisions D11 and D12 (log 10, log 9);
which bytes at PC are RETI and DI is PRESUMED (G1, log 7). -/
def Obligations.ImeChangesOnlyByItsWriters : Prop :=
  let rule (P : Params) (ex : Instr → State → Result) (run : State → Result) : Prop :=
    ∀ s t : State, run s = .next t →
      (s.ime = false → t.ime = true → s.instrAtPc = .reti ∨ s.eiDelay = 1) ∧
      (s.ime = true → t.ime = false → s.instrAtPc = .di ∨
        ∃ (u : State) (i : Source), ex s.instrAtPc (s.beginStep.fetchInstr P).2 = .next u ∧
          t.pc = P.vec i ∧ t.sp = u.sp - 2#16 ∧ t.eiDelay = 0)
  rule Params.default exec step ∧
  ∀ P : Params, P.mem = Mem.flat → rule P (fun i s => execForm i.form s P) (fun s => stepWith s P)

/-- R200, R201, R255 (decision D12, log 9), over whole steps: the step of EI dispatches nothing and leaves IME 0;
in the step after it, unless that is DI, IME is 1 for the interrupt check; DI's own step never dispatches; under any
VEC and COST. Which bytes at PC are EI and DI is PRESUMED (G1, log 7), and so are their costs (log 6). -/
def Obligations.EiTakesEffectAfterTheNextInstruction : Prop :=
  let rule (P : Params) (ex : Instr → State → Result) (run : State → Result) : Prop := ∀ s : State,
    (s.instrAtPc = .ei → s.ime = false → s.eiDelay = 0 →
      ∃ t, run s = .next t ∧ t.ime = false ∧ t.eiDelay = 1 ∧ t.pc = s.pc + 1#16 ∧ t.tcycles = P.cost .ei) ∧
    (s.eiDelay = 1 → s.instrAtPc ≠ .di → ∀ t, run s = .next t →
      ∃ u, ex s.instrAtPc (s.beginStep.fetchInstr P).2 = .next u ∧
        t = State.interruptCheck { u.charge u.tcycles P with ime := true, eiDelay := 0 } P) ∧
    (s.instrAtPc = .di →
      ∃ t, run s = .next t ∧ t.ime = false ∧ t.eiDelay = 0 ∧ t.pc = s.pc + 1#16 ∧ t.tcycles = P.cost .di)
  Params.default.cost .ei = 4 ∧ Params.default.cost .di = 4 ∧
  rule Params.default exec step ∧
  ∀ P : Params, P.mem = Mem.flat → rule P (fun i s => execForm i.form s P) (fun s => stepWith s P)

/-- R265: a step reports an instruction's cost, and 20 more exactly when its interrupt check dispatched; between 4
and 44 T-cycles with COST's defaults (log 6). COST and VEC reach nothing of an execution but its report. -/
def Obligations.StepReportsItsCost : Prop :=
  let rule (P : Params) (ex : Instr → State → Result) (run : State → Result) (costs : Nat → Prop) : Prop :=
    ∀ s t : State, run s = .next t →
      ∃ u, ex s.instrAtPc (s.beginStep.fetchInstr P).2 = .next u ∧ costs u.tcycles ∧
        let v := (u.charge u.tcycles P).eiDelayTick
        ((v.ime = true ∧ ∃ i, v.requests i) → t.tcycles = u.tcycles + 20) ∧
        (¬(v.ime = true ∧ ∃ i, v.requests i) → t.tcycles = u.tcycles)
  rule Params.default exec step (fun n => n ∈ [4, 8, 12, 16, 24]) ∧
  (∀ s t : State, step s = .next t → 4 ≤ t.tcycles ∧ t.tcycles ≤ 44) ∧
  (∀ P : Params, P.mem = Mem.flat →
    rule P (fun i s => execForm i.form s P) (fun s => stepWith s P) (fun _ => True)) ∧
  ∀ (P Q : Params) (f : Form) (s t : State), P.mem = Q.mem → execForm f s P = .next t →
    ∃ n, execForm f s Q = .next { t with tcycles := n }

/-- R39 (law W12), over whole steps: SP changes only in a step whose instruction is one of the eight SP movers or
that ends in a dispatch; under any VEC and COST. -/
def Obligations.SpMovesOnlyByItsWriters : Prop :=
  let rule (run : State → Result) (vec : Source → Word) : Prop :=
    ∀ s t : State, run s = .next t → t.sp ≠ s.sp →
      s.instrAtPc.form.mayMoveSp = true ∨ ∃ i : Source, t.pc = vec i ∧ t.ime = false ∧ t.sp = s.sp - 2#16
  rule step vec ∧ ∀ P : Params, P.mem = Mem.flat → rule (fun s => stepWith s P) P.vec
end

