-- ==== Sys2Proof/Laws/State.lean ====
section
/-! SUPPORT. The fields of State after each update, one lemma per field per operation, so that no later proof
unfolds a record update. -/

namespace Sys2Proof.Machine

/-! ### The default parameters -/

@[simp] theorem Params.default_mem : Params.default.mem = Mem.flat := rfl
@[simp] theorem Params.default_vec (i : Source) : Params.default.vec i = Machine.vec i := rfl
@[simp] theorem Params.default_cost (f : Form) : Params.default.cost f = Cost.ofForm f := rfl
@[simp] theorem Params.default_costNotTaken (cc : Cond) : Params.default.costNotTaken cc = Cost.jrNotTaken := rfl
@[simp] theorem Mem.flat_read (m : Memory) (a : Word) : Mem.flat.read m a = (m.read a, m) := rfl
@[simp] theorem Mem.flat_write (m : Memory) (a : Word) (v : Byte) : Mem.flat.write m a v = m.write a v := rfl

/-! ### COST at its defaults -/

@[simp] theorem Cost.pfx_eq : Cost.pfx = 4 := rfl
@[simp] theorem Cost.dispatch_eq : Cost.dispatch = 20 := rfl
@[simp] theorem Cost.jrNotTaken_eq : Cost.jrNotTaken = 8 := rfl
@[simp] theorem Cost.ofForm_ldRR (x y : Reg8) : Cost.ofForm (.ldRR x y) = 4 := rfl
@[simp] theorem Cost.ofForm_ldRHl (x : Reg8) : Cost.ofForm (.ldRHl x) = 8 := rfl
@[simp] theorem Cost.ofForm_ldHlR (x : Reg8) : Cost.ofForm (.ldHlR x) = 8 := rfl
@[simp] theorem Cost.ofForm_ldRD8 (x : Reg8) (y : Byte) : Cost.ofForm (.ldRD8 x y) = 8 := rfl
@[simp] theorem Cost.ofForm_incR (x : Reg8) : Cost.ofForm (.incR x) = 4 := rfl
@[simp] theorem Cost.ofForm_decR (x : Reg8) : Cost.ofForm (.decR x) = 4 := rfl
@[simp] theorem Cost.ofForm_ldRrD16 (x : Reg16) (y : Word) : Cost.ofForm (.ldRrD16 x y) = 12 := rfl
@[simp] theorem Cost.ofForm_incRr (x : Reg16) : Cost.ofForm (.incRr x) = 8 := rfl
@[simp] theorem Cost.ofForm_decRr (x : Reg16) : Cost.ofForm (.decRr x) = 8 := rfl
@[simp] theorem Cost.ofForm_ldRrA (x : IndPair) : Cost.ofForm (.ldRrA x) = 8 := rfl
@[simp] theorem Cost.ofForm_ldARr (x : IndPair) : Cost.ofForm (.ldARr x) = 8 := rfl
@[simp] theorem Cost.ofForm_rotA (x : Dir) : Cost.ofForm (.rotA x) = 4 := rfl
@[simp] theorem Cost.ofForm_jr (x : Byte) : Cost.ofForm (.jr x) = 12 := rfl
@[simp] theorem Cost.ofForm_jrCc (x : Cond) (y : Byte) : Cost.ofForm (.jrCc x y) = 12 := rfl
@[simp] theorem Cost.ofForm_aluR (x : AluOp) (y : Reg8) : Cost.ofForm (.aluR x y) = 4 := rfl
@[simp] theorem Cost.ofForm_aluHl (x : AluOp) : Cost.ofForm (.aluHl x) = 8 := rfl
@[simp] theorem Cost.ofForm_aluD8 (x : AluOp) (y : Byte) : Cost.ofForm (.aluD8 x y) = 8 := rfl
@[simp] theorem Cost.ofForm_pop (x : Pair) : Cost.ofForm (.pop x) = 12 := rfl
@[simp] theorem Cost.ofForm_push (x : Pair) : Cost.ofForm (.push x) = 16 := rfl
@[simp] theorem Cost.ofForm_ret : Cost.ofForm .ret = 16 := rfl
@[simp] theorem Cost.ofForm_reti : Cost.ofForm .reti = 16 := rfl
@[simp] theorem Cost.ofForm_call (x : Word) : Cost.ofForm (.call x) = 24 := rfl
@[simp] theorem Cost.ofForm_ldhA8A (x : Byte) : Cost.ofForm (.ldhA8A x) = 12 := rfl
@[simp] theorem Cost.ofForm_ldhAA8 (x : Byte) : Cost.ofForm (.ldhAA8 x) = 12 := rfl
@[simp] theorem Cost.ofForm_ldCA : Cost.ofForm .ldCA = 8 := rfl
@[simp] theorem Cost.ofForm_ldAC : Cost.ofForm .ldAC = 8 := rfl
@[simp] theorem Cost.ofForm_ldA16A (x : Word) : Cost.ofForm (.ldA16A x) = 16 := rfl
@[simp] theorem Cost.ofForm_ldAA16 (x : Word) : Cost.ofForm (.ldAA16 x) = 16 := rfl
@[simp] theorem Cost.ofForm_di : Cost.ofForm .di = 4 := rfl
@[simp] theorem Cost.ofForm_ei : Cost.ofForm .ei = 4 := rfl
@[simp] theorem Cost.ofForm_cbRotR (x : RotKind) (y : Reg8) : Cost.ofForm (.cbRotR x y) = 4 := rfl
@[simp] theorem Cost.ofForm_cbRotHl (x : RotKind) : Cost.ofForm (.cbRotHl x) = 12 := rfl
@[simp] theorem Cost.ofForm_cbBitR (x : Fin 8) (y : Reg8) : Cost.ofForm (.cbBitR x y) = 4 := rfl
@[simp] theorem Cost.ofForm_cbBitHl (x : Fin 8) : Cost.ofForm (.cbBitHl x) = 8 := rfl

/-! ### The memory port -/

@[simp] theorem State.memRead_fst (a : Word) (s : State) (P : Params) : (s.memRead a P).1 = (P.mem.read s.mem a).1 := rfl

/-! ### memRead -/

@[simp] theorem State.memRead_a (x : Word) (s : State) (P : Params) : ((s.memRead x P).2).a = s.a := rfl
@[simp] theorem State.memRead_f (x : Word) (s : State) (P : Params) : ((s.memRead x P).2).f = s.f := rfl
@[simp] theorem State.memRead_b (x : Word) (s : State) (P : Params) : ((s.memRead x P).2).b = s.b := rfl
@[simp] theorem State.memRead_c (x : Word) (s : State) (P : Params) : ((s.memRead x P).2).c = s.c := rfl
@[simp] theorem State.memRead_d (x : Word) (s : State) (P : Params) : ((s.memRead x P).2).d = s.d := rfl
@[simp] theorem State.memRead_e (x : Word) (s : State) (P : Params) : ((s.memRead x P).2).e = s.e := rfl
@[simp] theorem State.memRead_h (x : Word) (s : State) (P : Params) : ((s.memRead x P).2).h = s.h := rfl
@[simp] theorem State.memRead_l (x : Word) (s : State) (P : Params) : ((s.memRead x P).2).l = s.l := rfl
@[simp] theorem State.memRead_pc (x : Word) (s : State) (P : Params) : ((s.memRead x P).2).pc = s.pc := rfl
@[simp] theorem State.memRead_sp (x : Word) (s : State) (P : Params) : ((s.memRead x P).2).sp = s.sp := rfl
@[simp] theorem State.memRead_ime (x : Word) (s : State) (P : Params) : ((s.memRead x P).2).ime = s.ime := rfl
@[simp] theorem State.memRead_eiDelay (x : Word) (s : State) (P : Params) : ((s.memRead x P).2).eiDelay = s.eiDelay := rfl
@[simp] theorem State.memRead_acc (x : Word) (s : State) (P : Params) : ((s.memRead x P).2).acc = s.acc := rfl
@[simp] theorem State.memRead_mem (x : Word) (s : State) (P : Params) : ((s.memRead x P).2).mem = (P.mem.read s.mem x).2 := rfl
@[simp] theorem State.memRead_tcycles (x : Word) (s : State) (P : Params) : ((s.memRead x P).2).tcycles = s.tcycles := rfl
@[simp] theorem State.memRead_port (x : Word) (s : State) (P : Params) : ((s.memRead x P).2).port = s.port ++ [.read x (P.mem.read s.mem x).1] := rfl

/-! ### memWrite -/

@[simp] theorem State.memWrite_a (x : Word) (v : Byte) (s : State) (P : Params) : (s.memWrite x v P).a = s.a := rfl
@[simp] theorem State.memWrite_f (x : Word) (v : Byte) (s : State) (P : Params) : (s.memWrite x v P).f = s.f := rfl
@[simp] theorem State.memWrite_b (x : Word) (v : Byte) (s : State) (P : Params) : (s.memWrite x v P).b = s.b := rfl
@[simp] theorem State.memWrite_c (x : Word) (v : Byte) (s : State) (P : Params) : (s.memWrite x v P).c = s.c := rfl
@[simp] theorem State.memWrite_d (x : Word) (v : Byte) (s : State) (P : Params) : (s.memWrite x v P).d = s.d := rfl
@[simp] theorem State.memWrite_e (x : Word) (v : Byte) (s : State) (P : Params) : (s.memWrite x v P).e = s.e := rfl
@[simp] theorem State.memWrite_h (x : Word) (v : Byte) (s : State) (P : Params) : (s.memWrite x v P).h = s.h := rfl
@[simp] theorem State.memWrite_l (x : Word) (v : Byte) (s : State) (P : Params) : (s.memWrite x v P).l = s.l := rfl
@[simp] theorem State.memWrite_pc (x : Word) (v : Byte) (s : State) (P : Params) : (s.memWrite x v P).pc = s.pc := rfl
@[simp] theorem State.memWrite_sp (x : Word) (v : Byte) (s : State) (P : Params) : (s.memWrite x v P).sp = s.sp := rfl
@[simp] theorem State.memWrite_ime (x : Word) (v : Byte) (s : State) (P : Params) : (s.memWrite x v P).ime = s.ime := rfl
@[simp] theorem State.memWrite_eiDelay (x : Word) (v : Byte) (s : State) (P : Params) : (s.memWrite x v P).eiDelay = s.eiDelay := rfl
@[simp] theorem State.memWrite_acc (x : Word) (v : Byte) (s : State) (P : Params) : (s.memWrite x v P).acc = s.acc := rfl
@[simp] theorem State.memWrite_tcycles (x : Word) (v : Byte) (s : State) (P : Params) : (s.memWrite x v P).tcycles = s.tcycles := rfl
@[simp] theorem State.memWrite_mem (x : Word) (v : Byte) (s : State) (P : Params) : (s.memWrite x v P).mem = P.mem.write s.mem x v := rfl
@[simp] theorem State.memWrite_port (x : Word) (v : Byte) (s : State) (P : Params) : (s.memWrite x v P).port = s.port ++ [.write x v] := rfl

@[simp] theorem State.fetch8_fst (s : State) (P : Params) : (s.fetch8 P).1 = (P.mem.read s.mem s.pc).1 := rfl

/-! ### fetch8 -/

@[simp] theorem State.fetch8_a (s : State) (P : Params) : (s.fetch8 P).2.a = s.a := rfl
@[simp] theorem State.fetch8_f (s : State) (P : Params) : (s.fetch8 P).2.f = s.f := rfl
@[simp] theorem State.fetch8_b (s : State) (P : Params) : (s.fetch8 P).2.b = s.b := rfl
@[simp] theorem State.fetch8_c (s : State) (P : Params) : (s.fetch8 P).2.c = s.c := rfl
@[simp] theorem State.fetch8_d (s : State) (P : Params) : (s.fetch8 P).2.d = s.d := rfl
@[simp] theorem State.fetch8_e (s : State) (P : Params) : (s.fetch8 P).2.e = s.e := rfl
@[simp] theorem State.fetch8_h (s : State) (P : Params) : (s.fetch8 P).2.h = s.h := rfl
@[simp] theorem State.fetch8_l (s : State) (P : Params) : (s.fetch8 P).2.l = s.l := rfl
@[simp] theorem State.fetch8_sp (s : State) (P : Params) : (s.fetch8 P).2.sp = s.sp := rfl
@[simp] theorem State.fetch8_ime (s : State) (P : Params) : (s.fetch8 P).2.ime = s.ime := rfl
@[simp] theorem State.fetch8_eiDelay (s : State) (P : Params) : (s.fetch8 P).2.eiDelay = s.eiDelay := rfl
@[simp] theorem State.fetch8_acc (s : State) (P : Params) : (s.fetch8 P).2.acc = s.acc := rfl
@[simp] theorem State.fetch8_mem (s : State) (P : Params) : (s.fetch8 P).2.mem = (P.mem.read s.mem s.pc).2 := rfl
@[simp] theorem State.fetch8_tcycles (s : State) (P : Params) : (s.fetch8 P).2.tcycles = s.tcycles := rfl
@[simp] theorem State.fetch8_pc (s : State) (P : Params) : (s.fetch8 P).2.pc = s.pc + 1 := rfl
@[simp] theorem State.fetch8_port (s : State) (P : Params) : (s.fetch8 P).2.port = s.port ++ [.read s.pc (P.mem.read s.mem s.pc).1] := rfl

@[simp] theorem State.fetch16_fst (s : State) (P : Params) :
    (s.fetch16 P).1 = join16 (P.mem.read (P.mem.read s.mem s.pc).2 (s.pc + 1)).1 (P.mem.read s.mem s.pc).1 := by simp [State.fetch16]

/-! ### fetch16 -/

@[simp] theorem State.fetch16_a (s : State) (P : Params) : (s.fetch16 P).2.a = s.a := by simp [State.fetch16]
@[simp] theorem State.fetch16_f (s : State) (P : Params) : (s.fetch16 P).2.f = s.f := by simp [State.fetch16]
@[simp] theorem State.fetch16_b (s : State) (P : Params) : (s.fetch16 P).2.b = s.b := by simp [State.fetch16]
@[simp] theorem State.fetch16_c (s : State) (P : Params) : (s.fetch16 P).2.c = s.c := by simp [State.fetch16]
@[simp] theorem State.fetch16_d (s : State) (P : Params) : (s.fetch16 P).2.d = s.d := by simp [State.fetch16]
@[simp] theorem State.fetch16_e (s : State) (P : Params) : (s.fetch16 P).2.e = s.e := by simp [State.fetch16]
@[simp] theorem State.fetch16_h (s : State) (P : Params) : (s.fetch16 P).2.h = s.h := by simp [State.fetch16]
@[simp] theorem State.fetch16_l (s : State) (P : Params) : (s.fetch16 P).2.l = s.l := by simp [State.fetch16]
@[simp] theorem State.fetch16_sp (s : State) (P : Params) : (s.fetch16 P).2.sp = s.sp := by simp [State.fetch16]
@[simp] theorem State.fetch16_ime (s : State) (P : Params) : (s.fetch16 P).2.ime = s.ime := by simp [State.fetch16]
@[simp] theorem State.fetch16_eiDelay (s : State) (P : Params) : (s.fetch16 P).2.eiDelay = s.eiDelay := by simp [State.fetch16]
@[simp] theorem State.fetch16_acc (s : State) (P : Params) : (s.fetch16 P).2.acc = s.acc := by simp [State.fetch16]
@[simp] theorem State.fetch16_mem (s : State) (P : Params) : (s.fetch16 P).2.mem = (P.mem.read (P.mem.read s.mem s.pc).2 (s.pc + 1)).2 := by simp [State.fetch16]
@[simp] theorem State.fetch16_tcycles (s : State) (P : Params) : (s.fetch16 P).2.tcycles = s.tcycles := by simp [State.fetch16]
@[simp] theorem State.fetch16_pc (s : State) (P : Params) : (s.fetch16 P).2.pc = s.pc + 1 + 1 := by simp [State.fetch16]
@[simp] theorem State.fetch16_port (s : State) (P : Params) : (s.fetch16 P).2.port =
    s.port ++ [.read s.pc (P.mem.read s.mem s.pc).1] ++ [.read (s.pc + 1) (P.mem.read (P.mem.read s.mem s.pc).2 (s.pc + 1)).1] := by simp [State.fetch16]

/-! ### push16 -/

@[simp] theorem State.push16_a (w : Word) (s : State) (P : Params) : (s.push16 w P).a = s.a := by simp [State.push16]
@[simp] theorem State.push16_f (w : Word) (s : State) (P : Params) : (s.push16 w P).f = s.f := by simp [State.push16]
@[simp] theorem State.push16_b (w : Word) (s : State) (P : Params) : (s.push16 w P).b = s.b := by simp [State.push16]
@[simp] theorem State.push16_c (w : Word) (s : State) (P : Params) : (s.push16 w P).c = s.c := by simp [State.push16]
@[simp] theorem State.push16_d (w : Word) (s : State) (P : Params) : (s.push16 w P).d = s.d := by simp [State.push16]
@[simp] theorem State.push16_e (w : Word) (s : State) (P : Params) : (s.push16 w P).e = s.e := by simp [State.push16]
@[simp] theorem State.push16_h (w : Word) (s : State) (P : Params) : (s.push16 w P).h = s.h := by simp [State.push16]
@[simp] theorem State.push16_l (w : Word) (s : State) (P : Params) : (s.push16 w P).l = s.l := by simp [State.push16]
@[simp] theorem State.push16_pc (w : Word) (s : State) (P : Params) : (s.push16 w P).pc = s.pc := by simp [State.push16]
@[simp] theorem State.push16_ime (w : Word) (s : State) (P : Params) : (s.push16 w P).ime = s.ime := by simp [State.push16]
@[simp] theorem State.push16_eiDelay (w : Word) (s : State) (P : Params) : (s.push16 w P).eiDelay = s.eiDelay := by simp [State.push16]
@[simp] theorem State.push16_acc (w : Word) (s : State) (P : Params) : (s.push16 w P).acc = s.acc := by simp [State.push16]
@[simp] theorem State.push16_tcycles (w : Word) (s : State) (P : Params) : (s.push16 w P).tcycles = s.tcycles := by simp [State.push16]
@[simp] theorem State.push16_sp (w : Word) (s : State) (P : Params) : (s.push16 w P).sp = s.sp - 1 - 1 := by simp [State.push16]
@[simp] theorem State.push16_mem (w : Word) (s : State) (P : Params) : (s.push16 w P).mem =
    P.mem.write (P.mem.write s.mem (s.sp - 1) (hi8 w)) (s.sp - 1 - 1) (lo8 w) := by simp [State.push16]
@[simp] theorem State.push16_port (w : Word) (s : State) (P : Params) : (s.push16 w P).port = s.port ++ [.write (s.sp - 1) (hi8 w)] ++ [.write (s.sp - 1 - 1) (lo8 w)] := by simp [State.push16]

@[simp] theorem State.pop16_fst (s : State) (P : Params) :
    (s.pop16 P).1 = join16 (P.mem.read (P.mem.read s.mem s.sp).2 (s.sp + 1)).1 (P.mem.read s.mem s.sp).1 := by simp [State.pop16]

/-! ### pop16 -/

@[simp] theorem State.pop16_a (s : State) (P : Params) : (s.pop16 P).2.a = s.a := by simp [State.pop16]
@[simp] theorem State.pop16_f (s : State) (P : Params) : (s.pop16 P).2.f = s.f := by simp [State.pop16]
@[simp] theorem State.pop16_b (s : State) (P : Params) : (s.pop16 P).2.b = s.b := by simp [State.pop16]
@[simp] theorem State.pop16_c (s : State) (P : Params) : (s.pop16 P).2.c = s.c := by simp [State.pop16]
@[simp] theorem State.pop16_d (s : State) (P : Params) : (s.pop16 P).2.d = s.d := by simp [State.pop16]
@[simp] theorem State.pop16_e (s : State) (P : Params) : (s.pop16 P).2.e = s.e := by simp [State.pop16]
@[simp] theorem State.pop16_h (s : State) (P : Params) : (s.pop16 P).2.h = s.h := by simp [State.pop16]
@[simp] theorem State.pop16_l (s : State) (P : Params) : (s.pop16 P).2.l = s.l := by simp [State.pop16]
@[simp] theorem State.pop16_pc (s : State) (P : Params) : (s.pop16 P).2.pc = s.pc := by simp [State.pop16]
@[simp] theorem State.pop16_ime (s : State) (P : Params) : (s.pop16 P).2.ime = s.ime := by simp [State.pop16]
@[simp] theorem State.pop16_eiDelay (s : State) (P : Params) : (s.pop16 P).2.eiDelay = s.eiDelay := by simp [State.pop16]
@[simp] theorem State.pop16_acc (s : State) (P : Params) : (s.pop16 P).2.acc = s.acc := by simp [State.pop16]
@[simp] theorem State.pop16_mem (s : State) (P : Params) : (s.pop16 P).2.mem = (P.mem.read (P.mem.read s.mem s.sp).2 (s.sp + 1)).2 := by simp [State.pop16]
@[simp] theorem State.pop16_tcycles (s : State) (P : Params) : (s.pop16 P).2.tcycles = s.tcycles := by simp [State.pop16]
@[simp] theorem State.pop16_sp (s : State) (P : Params) : (s.pop16 P).2.sp = s.sp + 1 + 1 := by simp [State.pop16]
@[simp] theorem State.pop16_port (s : State) (P : Params) : (s.pop16 P).2.port =
    s.port ++ [.read s.sp (P.mem.read s.mem s.sp).1] ++ [.read (s.sp + 1) (P.mem.read (P.mem.read s.mem s.sp).2 (s.sp + 1)).1] := by simp [State.pop16]

/-! ### setReg -/

@[simp] theorem State.setReg_f (r : Reg8) (v : Byte) (s : State) : (s.setReg r v).f = s.f := by cases r <;> rfl
@[simp] theorem State.setReg_pc (r : Reg8) (v : Byte) (s : State) : (s.setReg r v).pc = s.pc := by cases r <;> rfl
@[simp] theorem State.setReg_sp (r : Reg8) (v : Byte) (s : State) : (s.setReg r v).sp = s.sp := by cases r <;> rfl
@[simp] theorem State.setReg_ime (r : Reg8) (v : Byte) (s : State) : (s.setReg r v).ime = s.ime := by cases r <;> rfl
@[simp] theorem State.setReg_eiDelay (r : Reg8) (v : Byte) (s : State) : (s.setReg r v).eiDelay = s.eiDelay := by cases r <;> rfl
@[simp] theorem State.setReg_acc (r : Reg8) (v : Byte) (s : State) : (s.setReg r v).acc = s.acc := by cases r <;> rfl
@[simp] theorem State.setReg_mem (r : Reg8) (v : Byte) (s : State) : (s.setReg r v).mem = s.mem := by cases r <;> rfl
@[simp] theorem State.setReg_port (r : Reg8) (v : Byte) (s : State) : (s.setReg r v).port = s.port := by cases r <;> rfl
@[simp] theorem State.setReg_tcycles (r : Reg8) (v : Byte) (s : State) : (s.setReg r v).tcycles = s.tcycles := by cases r <;> rfl

/-! ### setF -/

@[simp] theorem State.setF_a (v : Byte) (s : State) : (s.setF v).a = s.a := rfl
@[simp] theorem State.setF_b (v : Byte) (s : State) : (s.setF v).b = s.b := rfl
@[simp] theorem State.setF_c (v : Byte) (s : State) : (s.setF v).c = s.c := rfl
@[simp] theorem State.setF_d (v : Byte) (s : State) : (s.setF v).d = s.d := rfl
@[simp] theorem State.setF_e (v : Byte) (s : State) : (s.setF v).e = s.e := rfl
@[simp] theorem State.setF_h (v : Byte) (s : State) : (s.setF v).h = s.h := rfl
@[simp] theorem State.setF_l (v : Byte) (s : State) : (s.setF v).l = s.l := rfl
@[simp] theorem State.setF_pc (v : Byte) (s : State) : (s.setF v).pc = s.pc := rfl
@[simp] theorem State.setF_sp (v : Byte) (s : State) : (s.setF v).sp = s.sp := rfl
@[simp] theorem State.setF_ime (v : Byte) (s : State) : (s.setF v).ime = s.ime := rfl
@[simp] theorem State.setF_eiDelay (v : Byte) (s : State) : (s.setF v).eiDelay = s.eiDelay := rfl
@[simp] theorem State.setF_acc (v : Byte) (s : State) : (s.setF v).acc = s.acc := rfl
@[simp] theorem State.setF_mem (v : Byte) (s : State) : (s.setF v).mem = s.mem := rfl
@[simp] theorem State.setF_port (v : Byte) (s : State) : (s.setF v).port = s.port := rfl
@[simp] theorem State.setF_tcycles (v : Byte) (s : State) : (s.setF v).tcycles = s.tcycles := rfl
@[simp] theorem State.setF_f (v : Byte) (s : State) : (s.setF v).f = v &&& 0xF0#8 := rfl

/-! ### setPair -/

@[simp] theorem State.setPair_pc (p : Pair) (w : Word) (s : State) : (s.setPair p w).pc = s.pc := by cases p <;> rfl
@[simp] theorem State.setPair_sp (p : Pair) (w : Word) (s : State) : (s.setPair p w).sp = s.sp := by cases p <;> rfl
@[simp] theorem State.setPair_ime (p : Pair) (w : Word) (s : State) : (s.setPair p w).ime = s.ime := by cases p <;> rfl
@[simp] theorem State.setPair_eiDelay (p : Pair) (w : Word) (s : State) : (s.setPair p w).eiDelay = s.eiDelay := by cases p <;> rfl
@[simp] theorem State.setPair_acc (p : Pair) (w : Word) (s : State) : (s.setPair p w).acc = s.acc := by cases p <;> rfl
@[simp] theorem State.setPair_mem (p : Pair) (w : Word) (s : State) : (s.setPair p w).mem = s.mem := by cases p <;> rfl
@[simp] theorem State.setPair_port (p : Pair) (w : Word) (s : State) : (s.setPair p w).port = s.port := by cases p <;> rfl
@[simp] theorem State.setPair_tcycles (p : Pair) (w : Word) (s : State) : (s.setPair p w).tcycles = s.tcycles := by cases p <;> rfl

/-! ### setReg16 -/

@[simp] theorem State.setReg16_f (rr : Reg16) (w : Word) (s : State) : (s.setReg16 rr w).f = s.f := by cases rr <;> rfl
@[simp] theorem State.setReg16_pc (rr : Reg16) (w : Word) (s : State) : (s.setReg16 rr w).pc = s.pc := by cases rr <;> rfl
@[simp] theorem State.setReg16_ime (rr : Reg16) (w : Word) (s : State) : (s.setReg16 rr w).ime = s.ime := by cases rr <;> rfl
@[simp] theorem State.setReg16_eiDelay (rr : Reg16) (w : Word) (s : State) : (s.setReg16 rr w).eiDelay = s.eiDelay := by cases rr <;> rfl
@[simp] theorem State.setReg16_acc (rr : Reg16) (w : Word) (s : State) : (s.setReg16 rr w).acc = s.acc := by cases rr <;> rfl
@[simp] theorem State.setReg16_mem (rr : Reg16) (w : Word) (s : State) : (s.setReg16 rr w).mem = s.mem := by cases rr <;> rfl
@[simp] theorem State.setReg16_port (rr : Reg16) (w : Word) (s : State) : (s.setReg16 rr w).port = s.port := by cases rr <;> rfl
@[simp] theorem State.setReg16_tcycles (rr : Reg16) (w : Word) (s : State) : (s.setReg16 rr w).tcycles = s.tcycles := by cases rr <;> rfl

/-! ### writeFlag -/

@[simp] theorem State.writeFlag_a (m : Byte) (v : Bool) (s : State) : (s.writeFlag m v).a = s.a := by cases v <;> rfl
@[simp] theorem State.writeFlag_b (m : Byte) (v : Bool) (s : State) : (s.writeFlag m v).b = s.b := by cases v <;> rfl
@[simp] theorem State.writeFlag_c (m : Byte) (v : Bool) (s : State) : (s.writeFlag m v).c = s.c := by cases v <;> rfl
@[simp] theorem State.writeFlag_d (m : Byte) (v : Bool) (s : State) : (s.writeFlag m v).d = s.d := by cases v <;> rfl
@[simp] theorem State.writeFlag_e (m : Byte) (v : Bool) (s : State) : (s.writeFlag m v).e = s.e := by cases v <;> rfl
@[simp] theorem State.writeFlag_h (m : Byte) (v : Bool) (s : State) : (s.writeFlag m v).h = s.h := by cases v <;> rfl
@[simp] theorem State.writeFlag_l (m : Byte) (v : Bool) (s : State) : (s.writeFlag m v).l = s.l := by cases v <;> rfl
@[simp] theorem State.writeFlag_pc (m : Byte) (v : Bool) (s : State) : (s.writeFlag m v).pc = s.pc := by cases v <;> rfl
@[simp] theorem State.writeFlag_sp (m : Byte) (v : Bool) (s : State) : (s.writeFlag m v).sp = s.sp := by cases v <;> rfl
@[simp] theorem State.writeFlag_ime (m : Byte) (v : Bool) (s : State) : (s.writeFlag m v).ime = s.ime := by cases v <;> rfl
@[simp] theorem State.writeFlag_eiDelay (m : Byte) (v : Bool) (s : State) : (s.writeFlag m v).eiDelay = s.eiDelay := by cases v <;> rfl
@[simp] theorem State.writeFlag_acc (m : Byte) (v : Bool) (s : State) : (s.writeFlag m v).acc = s.acc := by cases v <;> rfl
@[simp] theorem State.writeFlag_mem (m : Byte) (v : Bool) (s : State) : (s.writeFlag m v).mem = s.mem := by cases v <;> rfl
@[simp] theorem State.writeFlag_port (m : Byte) (v : Bool) (s : State) : (s.writeFlag m v).port = s.port := by cases v <;> rfl
@[simp] theorem State.writeFlag_tcycles (m : Byte) (v : Bool) (s : State) : (s.writeFlag m v).tcycles = s.tcycles := by cases v <;> rfl

/-! ### The flags written together -/

theorem State.writeFlag_eq (m : Byte) (v : Bool) (s : State) :
    s.writeFlag m v = { s with f := (if v then s.f ||| m else s.f &&& ~~~m) &&& 0xF0#8 } := by
  cases v <;> rfl

theorem State.writeZNHC_eq (z n h c : Bool) (s : State) : s.writeZNHC z n h c = { s with f := flagByte z n h c } := by
  simp only [State.writeZNHC, State.writeZNH, State.writeFlag_eq, State.mk.injEq, true_and, and_true]
  ext i hi
  cases z <;> cases n <;> cases h <;> cases c <;> interval_cases i <;>
    simp [flagByte, zMask, nMask, hMask, cMask]

/-- Writing Z, N and Hf keeps Cy, and F's low nibble is zero after it. -/
theorem State.writeZNH_eq (z n h : Bool) (s : State) : s.writeZNH z n h = { s with f := flagByte z n h s.flagC } := by
  have hc : s.flagC = s.f.getLsbD 4 := by
    have : ∀ f : Byte, (f &&& cMask == cMask) = f.getLsbD 4 := by decide
    exact this s.f
  simp only [State.writeZNH, State.writeFlag_eq, State.mk.injEq, true_and, and_true, hc]
  ext i hi
  cases z <;> cases n <;> cases h <;> cases hb : s.f.getLsbD 4 <;> interval_cases i <;>
    simp_all [flagByte, zMask, nMask, hMask, cMask]

@[simp] theorem State.writeZNH_a (z n h : Bool) (s : State) : (s.writeZNH z n h).a = s.a := by rw [State.writeZNH_eq]
@[simp] theorem State.writeZNH_b (z n h : Bool) (s : State) : (s.writeZNH z n h).b = s.b := by rw [State.writeZNH_eq]
@[simp] theorem State.writeZNH_c (z n h : Bool) (s : State) : (s.writeZNH z n h).c = s.c := by rw [State.writeZNH_eq]
@[simp] theorem State.writeZNH_d (z n h : Bool) (s : State) : (s.writeZNH z n h).d = s.d := by rw [State.writeZNH_eq]
@[simp] theorem State.writeZNH_e (z n h : Bool) (s : State) : (s.writeZNH z n h).e = s.e := by rw [State.writeZNH_eq]
@[simp] theorem State.writeZNH_h (z n h : Bool) (s : State) : (s.writeZNH z n h).h = s.h := by rw [State.writeZNH_eq]
@[simp] theorem State.writeZNH_l (z n h : Bool) (s : State) : (s.writeZNH z n h).l = s.l := by rw [State.writeZNH_eq]
@[simp] theorem State.writeZNH_pc (z n h : Bool) (s : State) : (s.writeZNH z n h).pc = s.pc := by rw [State.writeZNH_eq]
@[simp] theorem State.writeZNH_sp (z n h : Bool) (s : State) : (s.writeZNH z n h).sp = s.sp := by rw [State.writeZNH_eq]
@[simp] theorem State.writeZNH_ime (z n h : Bool) (s : State) : (s.writeZNH z n h).ime = s.ime := by rw [State.writeZNH_eq]
@[simp] theorem State.writeZNH_eiDelay (z n h : Bool) (s : State) : (s.writeZNH z n h).eiDelay = s.eiDelay := by rw [State.writeZNH_eq]
@[simp] theorem State.writeZNH_acc (z n h : Bool) (s : State) : (s.writeZNH z n h).acc = s.acc := by rw [State.writeZNH_eq]
@[simp] theorem State.writeZNH_mem (z n h : Bool) (s : State) : (s.writeZNH z n h).mem = s.mem := by rw [State.writeZNH_eq]
@[simp] theorem State.writeZNH_port (z n h : Bool) (s : State) : (s.writeZNH z n h).port = s.port := by rw [State.writeZNH_eq]
@[simp] theorem State.writeZNH_tcycles (z n h : Bool) (s : State) : (s.writeZNH z n h).tcycles = s.tcycles := by rw [State.writeZNH_eq]
@[simp] theorem State.writeZNH_f (z n h : Bool) (s : State) : (s.writeZNH z n h).f = flagByte z n h s.flagC := by rw [State.writeZNH_eq]

/-! ### writeZNHC -/

@[simp] theorem State.writeZNHC_a (z n h c : Bool) (s : State) : (s.writeZNHC z n h c).a = s.a := by rw [State.writeZNHC_eq]
@[simp] theorem State.writeZNHC_b (z n h c : Bool) (s : State) : (s.writeZNHC z n h c).b = s.b := by rw [State.writeZNHC_eq]
@[simp] theorem State.writeZNHC_c (z n h c : Bool) (s : State) : (s.writeZNHC z n h c).c = s.c := by rw [State.writeZNHC_eq]
@[simp] theorem State.writeZNHC_d (z n h c : Bool) (s : State) : (s.writeZNHC z n h c).d = s.d := by rw [State.writeZNHC_eq]
@[simp] theorem State.writeZNHC_e (z n h c : Bool) (s : State) : (s.writeZNHC z n h c).e = s.e := by rw [State.writeZNHC_eq]
@[simp] theorem State.writeZNHC_h (z n h c : Bool) (s : State) : (s.writeZNHC z n h c).h = s.h := by rw [State.writeZNHC_eq]
@[simp] theorem State.writeZNHC_l (z n h c : Bool) (s : State) : (s.writeZNHC z n h c).l = s.l := by rw [State.writeZNHC_eq]
@[simp] theorem State.writeZNHC_pc (z n h c : Bool) (s : State) : (s.writeZNHC z n h c).pc = s.pc := by rw [State.writeZNHC_eq]
@[simp] theorem State.writeZNHC_sp (z n h c : Bool) (s : State) : (s.writeZNHC z n h c).sp = s.sp := by rw [State.writeZNHC_eq]
@[simp] theorem State.writeZNHC_ime (z n h c : Bool) (s : State) : (s.writeZNHC z n h c).ime = s.ime := by rw [State.writeZNHC_eq]
@[simp] theorem State.writeZNHC_eiDelay (z n h c : Bool) (s : State) : (s.writeZNHC z n h c).eiDelay = s.eiDelay := by rw [State.writeZNHC_eq]
@[simp] theorem State.writeZNHC_acc (z n h c : Bool) (s : State) : (s.writeZNHC z n h c).acc = s.acc := by rw [State.writeZNHC_eq]
@[simp] theorem State.writeZNHC_mem (z n h c : Bool) (s : State) : (s.writeZNHC z n h c).mem = s.mem := by rw [State.writeZNHC_eq]
@[simp] theorem State.writeZNHC_port (z n h c : Bool) (s : State) : (s.writeZNHC z n h c).port = s.port := by rw [State.writeZNHC_eq]
@[simp] theorem State.writeZNHC_tcycles (z n h c : Bool) (s : State) : (s.writeZNHC z n h c).tcycles = s.tcycles := by rw [State.writeZNHC_eq]
@[simp] theorem State.writeZNHC_f (z n h c : Bool) (s : State) : (s.writeZNHC z n h c).f = flagByte z n h c := by rw [State.writeZNHC_eq]

/-! ### alu -/

@[simp] theorem State.alu_b (op : AluOp) (v : Byte) (s : State) : (s.alu op v).b = s.b := by cases op <;> simp [State.alu]
@[simp] theorem State.alu_c (op : AluOp) (v : Byte) (s : State) : (s.alu op v).c = s.c := by cases op <;> simp [State.alu]
@[simp] theorem State.alu_d (op : AluOp) (v : Byte) (s : State) : (s.alu op v).d = s.d := by cases op <;> simp [State.alu]
@[simp] theorem State.alu_e (op : AluOp) (v : Byte) (s : State) : (s.alu op v).e = s.e := by cases op <;> simp [State.alu]
@[simp] theorem State.alu_h (op : AluOp) (v : Byte) (s : State) : (s.alu op v).h = s.h := by cases op <;> simp [State.alu]
@[simp] theorem State.alu_l (op : AluOp) (v : Byte) (s : State) : (s.alu op v).l = s.l := by cases op <;> simp [State.alu]
@[simp] theorem State.alu_pc (op : AluOp) (v : Byte) (s : State) : (s.alu op v).pc = s.pc := by cases op <;> simp [State.alu]
@[simp] theorem State.alu_sp (op : AluOp) (v : Byte) (s : State) : (s.alu op v).sp = s.sp := by cases op <;> simp [State.alu]
@[simp] theorem State.alu_ime (op : AluOp) (v : Byte) (s : State) : (s.alu op v).ime = s.ime := by cases op <;> simp [State.alu]
@[simp] theorem State.alu_eiDelay (op : AluOp) (v : Byte) (s : State) : (s.alu op v).eiDelay = s.eiDelay := by cases op <;> simp [State.alu]
@[simp] theorem State.alu_acc (op : AluOp) (v : Byte) (s : State) : (s.alu op v).acc = s.acc := by cases op <;> simp [State.alu]
@[simp] theorem State.alu_mem (op : AluOp) (v : Byte) (s : State) : (s.alu op v).mem = s.mem := by cases op <;> simp [State.alu]
@[simp] theorem State.alu_port (op : AluOp) (v : Byte) (s : State) : (s.alu op v).port = s.port := by cases op <;> simp [State.alu]
@[simp] theorem State.alu_tcycles (op : AluOp) (v : Byte) (s : State) : (s.alu op v).tcycles = s.tcycles := by cases op <;> simp [State.alu]

/-! ### charge -/

@[simp] theorem State.charge_a (n : Nat) (s : State) (P : Params) : (s.charge n P).a = s.a := by unfold State.charge; dsimp only; split <;> rfl
@[simp] theorem State.charge_f (n : Nat) (s : State) (P : Params) : (s.charge n P).f = s.f := by unfold State.charge; dsimp only; split <;> rfl
@[simp] theorem State.charge_b (n : Nat) (s : State) (P : Params) : (s.charge n P).b = s.b := by unfold State.charge; dsimp only; split <;> rfl
@[simp] theorem State.charge_c (n : Nat) (s : State) (P : Params) : (s.charge n P).c = s.c := by unfold State.charge; dsimp only; split <;> rfl
@[simp] theorem State.charge_d (n : Nat) (s : State) (P : Params) : (s.charge n P).d = s.d := by unfold State.charge; dsimp only; split <;> rfl
@[simp] theorem State.charge_e (n : Nat) (s : State) (P : Params) : (s.charge n P).e = s.e := by unfold State.charge; dsimp only; split <;> rfl
@[simp] theorem State.charge_h (n : Nat) (s : State) (P : Params) : (s.charge n P).h = s.h := by unfold State.charge; dsimp only; split <;> rfl
@[simp] theorem State.charge_l (n : Nat) (s : State) (P : Params) : (s.charge n P).l = s.l := by unfold State.charge; dsimp only; split <;> rfl
@[simp] theorem State.charge_pc (n : Nat) (s : State) (P : Params) : (s.charge n P).pc = s.pc := by unfold State.charge; dsimp only; split <;> rfl
@[simp] theorem State.charge_sp (n : Nat) (s : State) (P : Params) : (s.charge n P).sp = s.sp := by unfold State.charge; dsimp only; split <;> rfl
@[simp] theorem State.charge_ime (n : Nat) (s : State) (P : Params) : (s.charge n P).ime = s.ime := by unfold State.charge; dsimp only; split <;> rfl
@[simp] theorem State.charge_eiDelay (n : Nat) (s : State) (P : Params) : (s.charge n P).eiDelay = s.eiDelay := by unfold State.charge; dsimp only; split <;> rfl
@[simp] theorem State.charge_tcycles (n : Nat) (s : State) (P : Params) : (s.charge n P).tcycles = s.tcycles := by unfold State.charge; dsimp only; split <;> rfl

/-! ### eiDelayTick -/

theorem State.eiDelayTick_eq (s : State) : s.eiDelayTick = { s with
    eiDelay := if s.eiDelay = 2 then 1 else 0
    ime := s.ime || s.eiDelay == 1 } := by
  obtain ⟨a, f, b, c, d, e, h, l, pc, sp, ime, x, acc, mem, port, t⟩ := s
  match x with
  | 0 => cases ime <;> rfl
  | 1 => cases ime <;> rfl
  | 2 => cases ime <;> rfl

/-! ### eiDelayTick -/

@[simp] theorem State.eiDelayTick_a (s : State) : (s.eiDelayTick).a = s.a := by rw [State.eiDelayTick_eq]
@[simp] theorem State.eiDelayTick_f (s : State) : (s.eiDelayTick).f = s.f := by rw [State.eiDelayTick_eq]
@[simp] theorem State.eiDelayTick_b (s : State) : (s.eiDelayTick).b = s.b := by rw [State.eiDelayTick_eq]
@[simp] theorem State.eiDelayTick_c (s : State) : (s.eiDelayTick).c = s.c := by rw [State.eiDelayTick_eq]
@[simp] theorem State.eiDelayTick_d (s : State) : (s.eiDelayTick).d = s.d := by rw [State.eiDelayTick_eq]
@[simp] theorem State.eiDelayTick_e (s : State) : (s.eiDelayTick).e = s.e := by rw [State.eiDelayTick_eq]
@[simp] theorem State.eiDelayTick_h (s : State) : (s.eiDelayTick).h = s.h := by rw [State.eiDelayTick_eq]
@[simp] theorem State.eiDelayTick_l (s : State) : (s.eiDelayTick).l = s.l := by rw [State.eiDelayTick_eq]
@[simp] theorem State.eiDelayTick_pc (s : State) : (s.eiDelayTick).pc = s.pc := by rw [State.eiDelayTick_eq]
@[simp] theorem State.eiDelayTick_sp (s : State) : (s.eiDelayTick).sp = s.sp := by rw [State.eiDelayTick_eq]
@[simp] theorem State.eiDelayTick_acc (s : State) : (s.eiDelayTick).acc = s.acc := by rw [State.eiDelayTick_eq]
@[simp] theorem State.eiDelayTick_mem (s : State) : (s.eiDelayTick).mem = s.mem := by rw [State.eiDelayTick_eq]
@[simp] theorem State.eiDelayTick_port (s : State) : (s.eiDelayTick).port = s.port := by rw [State.eiDelayTick_eq]
@[simp] theorem State.eiDelayTick_tcycles (s : State) : (s.eiDelayTick).tcycles = s.tcycles := by rw [State.eiDelayTick_eq]
@[simp] theorem State.eiDelayTick_ime (s : State) : (s.eiDelayTick).ime = (s.ime || s.eiDelay == 1) := by rw [State.eiDelayTick_eq]
@[simp] theorem State.eiDelayTick_eiDelay (s : State) : (s.eiDelayTick).eiDelay = if s.eiDelay = 2 then 1 else 0 := by rw [State.eiDelayTick_eq]

/-! ### beginStep -/

@[simp] theorem State.beginStep_a (s : State) : (s.beginStep).a = s.a := rfl
@[simp] theorem State.beginStep_f (s : State) : (s.beginStep).f = s.f := rfl
@[simp] theorem State.beginStep_b (s : State) : (s.beginStep).b = s.b := rfl
@[simp] theorem State.beginStep_c (s : State) : (s.beginStep).c = s.c := rfl
@[simp] theorem State.beginStep_d (s : State) : (s.beginStep).d = s.d := rfl
@[simp] theorem State.beginStep_e (s : State) : (s.beginStep).e = s.e := rfl
@[simp] theorem State.beginStep_h (s : State) : (s.beginStep).h = s.h := rfl
@[simp] theorem State.beginStep_l (s : State) : (s.beginStep).l = s.l := rfl
@[simp] theorem State.beginStep_pc (s : State) : (s.beginStep).pc = s.pc := rfl
@[simp] theorem State.beginStep_sp (s : State) : (s.beginStep).sp = s.sp := rfl
@[simp] theorem State.beginStep_ime (s : State) : (s.beginStep).ime = s.ime := rfl
@[simp] theorem State.beginStep_eiDelay (s : State) : (s.beginStep).eiDelay = s.eiDelay := rfl
@[simp] theorem State.beginStep_acc (s : State) : (s.beginStep).acc = s.acc := rfl
@[simp] theorem State.beginStep_mem (s : State) : (s.beginStep).mem = s.mem := rfl
@[simp] theorem State.beginStep_port (s : State) : (s.beginStep).port = [] := rfl
@[simp] theorem State.beginStep_tcycles (s : State) : (s.beginStep).tcycles = 0 := rfl

/-! ### env -/

@[simp] theorem State.env_a (m : Memory) (s : State) : (s.env m).a = s.a := rfl
@[simp] theorem State.env_f (m : Memory) (s : State) : (s.env m).f = s.f := rfl
@[simp] theorem State.env_b (m : Memory) (s : State) : (s.env m).b = s.b := rfl
@[simp] theorem State.env_c (m : Memory) (s : State) : (s.env m).c = s.c := rfl
@[simp] theorem State.env_d (m : Memory) (s : State) : (s.env m).d = s.d := rfl
@[simp] theorem State.env_e (m : Memory) (s : State) : (s.env m).e = s.e := rfl
@[simp] theorem State.env_h (m : Memory) (s : State) : (s.env m).h = s.h := rfl
@[simp] theorem State.env_l (m : Memory) (s : State) : (s.env m).l = s.l := rfl
@[simp] theorem State.env_pc (m : Memory) (s : State) : (s.env m).pc = s.pc := rfl
@[simp] theorem State.env_sp (m : Memory) (s : State) : (s.env m).sp = s.sp := rfl
@[simp] theorem State.env_ime (m : Memory) (s : State) : (s.env m).ime = s.ime := rfl
@[simp] theorem State.env_eiDelay (m : Memory) (s : State) : (s.env m).eiDelay = s.eiDelay := rfl
@[simp] theorem State.env_acc (m : Memory) (s : State) : (s.env m).acc = s.acc := rfl
@[simp] theorem State.env_port (m : Memory) (s : State) : (s.env m).port = s.port := rfl
@[simp] theorem State.env_tcycles (m : Memory) (s : State) : (s.env m).tcycles = s.tcycles := rfl
@[simp] theorem State.env_mem (m : Memory) (s : State) : (s.env m).mem = m := rfl

/-! ### returnFromInterrupt -/

@[simp] theorem State.returnFromInterrupt_a (s : State) (P : Params) : (s.returnFromInterrupt P).a = s.a := by simp [State.returnFromInterrupt]
@[simp] theorem State.returnFromInterrupt_f (s : State) (P : Params) : (s.returnFromInterrupt P).f = s.f := by simp [State.returnFromInterrupt]
@[simp] theorem State.returnFromInterrupt_b (s : State) (P : Params) : (s.returnFromInterrupt P).b = s.b := by simp [State.returnFromInterrupt]
@[simp] theorem State.returnFromInterrupt_c (s : State) (P : Params) : (s.returnFromInterrupt P).c = s.c := by simp [State.returnFromInterrupt]
@[simp] theorem State.returnFromInterrupt_d (s : State) (P : Params) : (s.returnFromInterrupt P).d = s.d := by simp [State.returnFromInterrupt]
@[simp] theorem State.returnFromInterrupt_e (s : State) (P : Params) : (s.returnFromInterrupt P).e = s.e := by simp [State.returnFromInterrupt]
@[simp] theorem State.returnFromInterrupt_h (s : State) (P : Params) : (s.returnFromInterrupt P).h = s.h := by simp [State.returnFromInterrupt]
@[simp] theorem State.returnFromInterrupt_l (s : State) (P : Params) : (s.returnFromInterrupt P).l = s.l := by simp [State.returnFromInterrupt]
@[simp] theorem State.returnFromInterrupt_acc (s : State) (P : Params) : (s.returnFromInterrupt P).acc = s.acc := by simp [State.returnFromInterrupt]
@[simp] theorem State.returnFromInterrupt_mem (s : State) (P : Params) :
    (s.returnFromInterrupt P).mem = (P.mem.read (P.mem.read s.mem s.sp).2 (s.sp + 1)).2 := by simp [State.returnFromInterrupt]
@[simp] theorem State.returnFromInterrupt_tcycles (s : State) (P : Params) : (s.returnFromInterrupt P).tcycles = s.tcycles := by simp [State.returnFromInterrupt]
@[simp] theorem State.returnFromInterrupt_sp (s : State) (P : Params) : (s.returnFromInterrupt P).sp = s.sp + 1 + 1 := by simp [State.returnFromInterrupt]
@[simp] theorem State.returnFromInterrupt_pc (s : State) (P : Params) :
    (s.returnFromInterrupt P).pc = join16 (P.mem.read (P.mem.read s.mem s.sp).2 (s.sp + 1)).1 (P.mem.read s.mem s.sp).1 := by simp [State.returnFromInterrupt]
@[simp] theorem State.returnFromInterrupt_ime (s : State) (P : Params) : (s.returnFromInterrupt P).ime = true := by simp [State.returnFromInterrupt]
@[simp] theorem State.returnFromInterrupt_eiDelay (s : State) (P : Params) : (s.returnFromInterrupt P).eiDelay = 0 := by simp [State.returnFromInterrupt]
@[simp] theorem State.returnFromInterrupt_port (s : State) (P : Params) : (s.returnFromInterrupt P).port =
    s.port ++ [.read s.sp (P.mem.read s.mem s.sp).1] ++ [.read (s.sp + 1) (P.mem.read (P.mem.read s.mem s.sp).2 (s.sp + 1)).1] := by
  simp [State.returnFromInterrupt]

/-! ### dispatch -/

@[simp] theorem State.dispatch_a (i : Source) (ifv : Byte) (s : State) (P : Params) : (s.dispatch i ifv P).a = s.a := by simp [State.dispatch]
@[simp] theorem State.dispatch_f (i : Source) (ifv : Byte) (s : State) (P : Params) : (s.dispatch i ifv P).f = s.f := by simp [State.dispatch]
@[simp] theorem State.dispatch_b (i : Source) (ifv : Byte) (s : State) (P : Params) : (s.dispatch i ifv P).b = s.b := by simp [State.dispatch]
@[simp] theorem State.dispatch_c (i : Source) (ifv : Byte) (s : State) (P : Params) : (s.dispatch i ifv P).c = s.c := by simp [State.dispatch]
@[simp] theorem State.dispatch_d (i : Source) (ifv : Byte) (s : State) (P : Params) : (s.dispatch i ifv P).d = s.d := by simp [State.dispatch]
@[simp] theorem State.dispatch_e (i : Source) (ifv : Byte) (s : State) (P : Params) : (s.dispatch i ifv P).e = s.e := by simp [State.dispatch]
@[simp] theorem State.dispatch_h (i : Source) (ifv : Byte) (s : State) (P : Params) : (s.dispatch i ifv P).h = s.h := by simp [State.dispatch]
@[simp] theorem State.dispatch_l (i : Source) (ifv : Byte) (s : State) (P : Params) : (s.dispatch i ifv P).l = s.l := by simp [State.dispatch]
@[simp] theorem State.dispatch_sp (i : Source) (ifv : Byte) (s : State) (P : Params) : (s.dispatch i ifv P).sp = s.sp - 1 - 1 := by simp [State.dispatch]
@[simp] theorem State.dispatch_pc (i : Source) (ifv : Byte) (s : State) (P : Params) : (s.dispatch i ifv P).pc = P.vec i := by simp [State.dispatch]
@[simp] theorem State.dispatch_ime (i : Source) (ifv : Byte) (s : State) (P : Params) : (s.dispatch i ifv P).ime = false := by simp [State.dispatch]
@[simp] theorem State.dispatch_eiDelay (i : Source) (ifv : Byte) (s : State) (P : Params) : (s.dispatch i ifv P).eiDelay = 0 := by simp [State.dispatch]
@[simp] theorem State.dispatch_tcycles (i : Source) (ifv : Byte) (s : State) (P : Params) : (s.dispatch i ifv P).tcycles = s.tcycles + 20 := by simp [State.dispatch, Cost.dispatch]

/-! ### interruptCheck -/

/-- What the check reads of IF and IE, and the state after the two reads. -/
def State.readIfIe (s : State) (P : Params) : Byte × Byte × State :=
  let ifv := s.memRead Config.ifAddr P
  let iev := ifv.2.memRead Config.ieAddr P
  (ifv.1, iev.1, iev.2)

/-- Everything the interrupt check can do: nothing, two reads, or a dispatch after the two reads. -/
theorem State.interruptCheck_cases (s : State) (P : Params) :
    (s.ime = false ∧ s.interruptCheck P = s) ∨
    (s.ime = true ∧ leastPending ((s.readIfIe P).1 &&& (s.readIfIe P).2.1 &&& 0x1F#8) = none ∧
      s.interruptCheck P = (s.readIfIe P).2.2) ∨
    (s.ime = true ∧ ∃ i, leastPending ((s.readIfIe P).1 &&& (s.readIfIe P).2.1 &&& 0x1F#8) = some i ∧
      s.interruptCheck P = (s.readIfIe P).2.2.dispatch i (s.readIfIe P).1 P) := by
  unfold State.interruptCheck State.readIfIe
  cases h : s.ime with
  | false => exact .inl ⟨rfl, by simp⟩
  | true =>
    simp only [if_true, true_and, Bool.true_eq_false, false_and, false_or]
    split
    · exact .inl ⟨‹_›, rfl⟩
    · exact .inr ⟨_, ‹_›, rfl⟩

@[simp] theorem State.readIfIe_a (s : State) (P : Params) : (s.readIfIe P).2.2.a = s.a := rfl
@[simp] theorem State.readIfIe_f (s : State) (P : Params) : (s.readIfIe P).2.2.f = s.f := rfl
@[simp] theorem State.readIfIe_b (s : State) (P : Params) : (s.readIfIe P).2.2.b = s.b := rfl
@[simp] theorem State.readIfIe_c (s : State) (P : Params) : (s.readIfIe P).2.2.c = s.c := rfl
@[simp] theorem State.readIfIe_d (s : State) (P : Params) : (s.readIfIe P).2.2.d = s.d := rfl
@[simp] theorem State.readIfIe_e (s : State) (P : Params) : (s.readIfIe P).2.2.e = s.e := rfl
@[simp] theorem State.readIfIe_h (s : State) (P : Params) : (s.readIfIe P).2.2.h = s.h := rfl
@[simp] theorem State.readIfIe_l (s : State) (P : Params) : (s.readIfIe P).2.2.l = s.l := rfl
@[simp] theorem State.readIfIe_pc (s : State) (P : Params) : (s.readIfIe P).2.2.pc = s.pc := rfl
@[simp] theorem State.readIfIe_sp (s : State) (P : Params) : (s.readIfIe P).2.2.sp = s.sp := rfl
@[simp] theorem State.readIfIe_ime (s : State) (P : Params) : (s.readIfIe P).2.2.ime = s.ime := rfl
@[simp] theorem State.readIfIe_eiDelay (s : State) (P : Params) : (s.readIfIe P).2.2.eiDelay = s.eiDelay := rfl
@[simp] theorem State.readIfIe_acc (s : State) (P : Params) : (s.readIfIe P).2.2.acc = s.acc := rfl
@[simp] theorem State.readIfIe_tcycles (s : State) (P : Params) : (s.readIfIe P).2.2.tcycles = s.tcycles := rfl
@[simp] theorem State.readIfIe_if (s : State) (P : Params) :
    (s.readIfIe P).1 = (P.mem.read s.mem Config.ifAddr).1 := rfl
@[simp] theorem State.readIfIe_ie (s : State) (P : Params) :
    (s.readIfIe P).2.1 = (P.mem.read (P.mem.read s.mem Config.ifAddr).2 Config.ieAddr).1 := rfl
@[simp] theorem State.readIfIe_mem (s : State) (P : Params) :
    (s.readIfIe P).2.2.mem = (P.mem.read (P.mem.read s.mem Config.ifAddr).2 Config.ieAddr).2 := rfl
@[simp] theorem State.readIfIe_port (s : State) (P : Params) :
    (s.readIfIe P).2.2.port = s.port ++ [.read Config.ifAddr (s.readIfIe P).1] ++
      [.read Config.ieAddr (s.readIfIe P).2.1] := rfl

@[simp] theorem State.interruptCheck_a (s : State) (P : Params) : (s.interruptCheck P).a = s.a := by
  obtain ⟨-, h⟩ | ⟨-, -, h⟩ | ⟨-, i, -, h⟩ := s.interruptCheck_cases P <;> simp [h]

@[simp] theorem State.interruptCheck_f (s : State) (P : Params) : (s.interruptCheck P).f = s.f := by
  obtain ⟨-, h⟩ | ⟨-, -, h⟩ | ⟨-, i, -, h⟩ := s.interruptCheck_cases P <;> simp [h]

@[simp] theorem State.interruptCheck_b (s : State) (P : Params) : (s.interruptCheck P).b = s.b := by
  obtain ⟨-, h⟩ | ⟨-, -, h⟩ | ⟨-, i, -, h⟩ := s.interruptCheck_cases P <;> simp [h]

@[simp] theorem State.interruptCheck_c (s : State) (P : Params) : (s.interruptCheck P).c = s.c := by
  obtain ⟨-, h⟩ | ⟨-, -, h⟩ | ⟨-, i, -, h⟩ := s.interruptCheck_cases P <;> simp [h]

@[simp] theorem State.interruptCheck_d (s : State) (P : Params) : (s.interruptCheck P).d = s.d := by
  obtain ⟨-, h⟩ | ⟨-, -, h⟩ | ⟨-, i, -, h⟩ := s.interruptCheck_cases P <;> simp [h]

@[simp] theorem State.interruptCheck_e (s : State) (P : Params) : (s.interruptCheck P).e = s.e := by
  obtain ⟨-, h⟩ | ⟨-, -, h⟩ | ⟨-, i, -, h⟩ := s.interruptCheck_cases P <;> simp [h]

@[simp] theorem State.interruptCheck_h (s : State) (P : Params) : (s.interruptCheck P).h = s.h := by
  obtain ⟨-, h⟩ | ⟨-, -, h⟩ | ⟨-, i, -, h⟩ := s.interruptCheck_cases P <;> simp [h]

@[simp] theorem State.interruptCheck_l (s : State) (P : Params) : (s.interruptCheck P).l = s.l := by
  obtain ⟨-, h⟩ | ⟨-, -, h⟩ | ⟨-, i, -, h⟩ := s.interruptCheck_cases P <;> simp [h]

/-! ### endOfStep -/

@[simp] theorem State.endOfStep_a (s : State) (P : Params) : (s.endOfStep P).a = s.a := by simp [State.endOfStep]
@[simp] theorem State.endOfStep_f (s : State) (P : Params) : (s.endOfStep P).f = s.f := by simp [State.endOfStep]
@[simp] theorem State.endOfStep_b (s : State) (P : Params) : (s.endOfStep P).b = s.b := by simp [State.endOfStep]
@[simp] theorem State.endOfStep_c (s : State) (P : Params) : (s.endOfStep P).c = s.c := by simp [State.endOfStep]
@[simp] theorem State.endOfStep_d (s : State) (P : Params) : (s.endOfStep P).d = s.d := by simp [State.endOfStep]
@[simp] theorem State.endOfStep_e (s : State) (P : Params) : (s.endOfStep P).e = s.e := by simp [State.endOfStep]
@[simp] theorem State.endOfStep_h (s : State) (P : Params) : (s.endOfStep P).h = s.h := by simp [State.endOfStep]
@[simp] theorem State.endOfStep_l (s : State) (P : Params) : (s.endOfStep P).l = s.l := by simp [State.endOfStep]

/-! ### Registers read after a register is written -/

@[simp] theorem State.reg_setReg (r q : Reg8) (v : Byte) (s : State) :
    (s.setReg r v).reg q = if q = r then v else s.reg q := by cases r <;> cases q <;> rfl

@[simp] theorem State.setReg_reg (r : Reg8) (s : State) : s.setReg r (s.reg r) = s := by cases r <;> rfl

end Sys2Proof.Machine
end

