-- ==== Sys2Proof/Laws/Memory.lean ====
section
/-! SUPPORT. The laws of the flat memory: the canonical form is kept, a read after a write; and that every operation
over memory keeps what `MEM` keeps. -/

namespace Sys2Proof.Machine

theorem Memory.wfFrom_mono {lo lo' : Nat} (hl : lo' ≤ lo) {m : Memory} (h : Memory.wfFrom lo m = true) :
    Memory.wfFrom lo' m = true := by
  cases m with
  | nil => rfl
  | cons c m =>
    simp only [Memory.wfFrom, Bool.and_eq_true, decide_eq_true_eq] at h ⊢
    exact ⟨⟨⟨by omega, h.1.1.2⟩, h.1.2⟩, h.2⟩

/-- Below its first cell a canonical memory lists nothing. -/
theorem Memory.lookup_lt {lo k : Nat} (hk : k < lo) {m : Memory} (h : Memory.wfFrom lo m = true) :
    m.lookup k = Config.unlistedByte := by
  induction m generalizing lo with
  | nil => rfl
  | cons c m ih =>
    simp only [Memory.wfFrom, Bool.and_eq_true, decide_eq_true_eq] at h
    have hne : c.1 ≠ k := by omega
    simp only [Memory.lookup, hne, if_false]
    exact ih (by omega) h.2

theorem Memory.wfFrom_update {lo k : Nat} (v : Byte) (hlo : lo ≤ k) (hk : k < 65536) {m : Memory}
    (h : Memory.wfFrom lo m = true) : Memory.wfFrom lo (m.update k v) = true := by
  induction m generalizing lo with
  | nil =>
    simp only [Memory.update]
    split
    · rfl
    · rename_i hv; simp [Memory.wfFrom, hlo, hk, hv]
  | cons c m ih =>
    obtain ⟨j, w⟩ := c
    simp only [Memory.wfFrom, Bool.and_eq_true, decide_eq_true_eq] at h
    obtain ⟨⟨⟨h1, h2⟩, h3⟩, h4⟩ := h
    simp only [Memory.update]
    by_cases hjk : j < k
    · simp only [hjk, if_true, Memory.wfFrom, Bool.and_eq_true, decide_eq_true_eq]
      exact ⟨⟨⟨h1, h2⟩, h3⟩, ih hjk h4⟩
    · have hrest : Memory.wfFrom (k + 1) (if j = k then m else (j, w) :: m) = true := by
        split
        · rename_i e; subst e; exact h4
        · simp only [Memory.wfFrom, Bool.and_eq_true, decide_eq_true_eq]
          exact ⟨⟨⟨by omega, h2⟩, h3⟩, h4⟩
      simp only [hjk, if_false]
      split
      · exact Memory.wfFrom_mono (by omega) hrest
      · rename_i hv
        simp only [Memory.wfFrom, Bool.and_eq_true, decide_eq_true_eq]
        exact ⟨⟨⟨hlo, hk⟩, hv⟩, hrest⟩

theorem Memory.lookup_update {lo : Nat} (k : Nat) (v : Byte) (q : Nat) {m : Memory}
    (h : Memory.wfFrom lo m = true) : (m.update k v).lookup q = if q = k then v else m.lookup q := by
  induction m generalizing lo with
  | nil =>
    by_cases hv : v = Config.unlistedByte <;> by_cases hq : q = k
    · simp [Memory.update, Memory.lookup, hv]
    · simp [Memory.update, Memory.lookup, hv]
    · subst hq; simp [Memory.update, Memory.lookup, hv]
    · simp [Memory.update, Memory.lookup, hv, hq, Ne.symm hq]
  | cons c m ih =>
    obtain ⟨j, w⟩ := c
    simp only [Memory.wfFrom, Bool.and_eq_true, decide_eq_true_eq] at h
    obtain ⟨⟨⟨h1, h2⟩, h3⟩, h4⟩ := h
    simp only [Memory.update]
    by_cases hjk : j < k
    · simp only [hjk, if_true, Memory.lookup, ih h4]
      by_cases hq : q = k
      · subst hq; simp [show j ≠ q by omega]
      · simp [hq]
    · have hrest : Memory.lookup q (if j = k then m else (j, w) :: m) =
          if q = k then Config.unlistedByte else Memory.lookup q ((j, w) :: m) := by
        by_cases he : j = k
        · subst he
          by_cases hq : q = j
          · subst hq; simp [Memory.lookup_lt (Nat.lt_succ_self q) h4]
          · simp [hq, Memory.lookup, Ne.symm hq]
        · by_cases hq : q = k
          · subst hq
            have : Memory.lookup q m = Config.unlistedByte := Memory.lookup_lt (by omega) h4
            simp [he, Memory.lookup, this]
          · simp [he, hq]
      simp only [hjk, if_false]
      by_cases hv : v = Config.unlistedByte
      · simp only [hv, if_true, hrest]
      · simp only [hv, if_false, Memory.lookup, hrest]
        by_cases hq : q = k
        · subst hq; simp
        · simp [hq, Ne.symm hq]

@[simp] theorem Memory.wf_nil : Memory.wf [] = true := rfl

/-- A write keeps the canonical form. -/
theorem Memory.wf_write {m : Memory} (h : m.wf = true) (a : Word) (v : Byte) : (m.write a v).wf = true :=
  Memory.wfFrom_update v (Nat.zero_le _) a.isLt h

/-- A read after a write. -/
theorem Memory.read_write {m : Memory} (h : m.wf = true) (a b : Word) (v : Byte) :
    (m.write a v).read b = if b = a then v else m.read b := by
  have := Memory.lookup_update a.toNat v b.toNat (lo := 0) h
  simpa [Memory.read, Memory.write, BitVec.toNat_inj] using this

theorem Memory.read_write_self {m : Memory} (h : m.wf = true) (a : Word) (v : Byte) : (m.write a v).read a = v := by
  simp [Memory.read_write h]

theorem Memory.read_write_ne {m : Memory} (h : m.wf = true) {a b : Word} (hab : b ≠ a) (v : Byte) :
    (m.write a v).read b = m.read b := by
  simp [Memory.read_write h, hab]

theorem Memory.wf_writeBytes (bs : List Byte) {m : Memory} (h : m.wf = true) (a : Word) :
    (Memory.writeBytes a bs m).wf = true := by
  induction bs generalizing a m with
  | nil => exact h
  | cons b bs ih => exact ih (Memory.wf_write h a b) (a + 1)

/-! ## Every operation over memory keeps what `MEM` keeps -/

/-- The flat memory keeps the canonical form. -/
theorem Mem.flat_keeps_wf : Mem.flat.Keeps (fun m => m.wf = true) :=
  ⟨fun _ _ h => h, fun _ a v h => Memory.wf_write h a v⟩

section Keeps

variable {P : Params} {I : Memory → Prop} {s : State}

theorem State.memRead_keeps (hM : P.mem.Keeps I) (h : I s.mem) (a : Word) : I (s.memRead a P).2.mem := hM.1 _ a h

theorem State.memWrite_keeps (hM : P.mem.Keeps I) (h : I s.mem) (a : Word) (v : Byte) : I (s.memWrite a v P).mem :=
  hM.2 _ a v h

theorem State.push16_keeps (hM : P.mem.Keeps I) (h : I s.mem) (w : Word) : I (s.push16 w P).mem :=
  hM.2 _ _ _ (hM.2 _ _ _ h)

theorem State.pop16_keeps (hM : P.mem.Keeps I) (h : I s.mem) : I (s.pop16 P).2.mem := hM.1 _ _ (hM.1 _ _ h)

theorem State.fetchInstr_keeps (hM : P.mem.Keeps I) (h : I s.mem) : I (s.fetchInstr P).2.mem := by
  unfold State.fetchInstr
  dsimp only
  split
  · exact hM.1 _ _ h
  · exact hM.1 _ _ (hM.1 _ _ h)
  · exact hM.1 _ _ (hM.1 _ _ (hM.1 _ _ h))

theorem State.charge_keeps (hM : P.mem.Keeps I) (h : I s.mem) (n : Nat) : I (s.charge n P).mem := by
  unfold State.charge
  dsimp only
  split
  · exact hM.2 _ _ _ (hM.1 _ _ h)
  · exact h

end Keeps

theorem State.reset_mem_wf : State.reset.mem.wf = true := rfl

end Sys2Proof.Machine
end

