-- ==== Sys2Proof/Laws/Ops.lean ====
section
/-! SUPPORT. One lemma per shared operation of the step that says everything it can do. -/

namespace Sys2Proof.Machine

/-! ## Bytes of a word -/

theorem join16_toNat (h l : Byte) : (join16 h l).toNat = h.toNat * 256 + l.toNat := by
  have := Nat.two_pow_add_eq_or_of_lt l.isLt h.toNat
  rw [join16, BitVec.toNat_append, Nat.shiftLeft_eq, Nat.mul_comm, ← this]

theorem hi8_toNat (w : Word) : (hi8 w).toNat = w.toNat / 256 := by
  have := w.isLt
  simp only [hi8, BitVec.extractLsb'_toNat, Nat.shiftRight_eq_div_pow]
  omega

theorem lo8_toNat (w : Word) : (lo8 w).toNat = w.toNat % 256 := by
  simp only [lo8, BitVec.extractLsb'_toNat, Nat.shiftRight_zero]

@[simp] theorem hi8_join16 (h l : Byte) : hi8 (join16 h l) = h := by
  apply BitVec.eq_of_toNat_eq
  have := l.isLt
  rw [hi8_toNat, join16_toNat]
  omega

@[simp] theorem lo8_join16 (h l : Byte) : lo8 (join16 h l) = l := by
  apply BitVec.eq_of_toNat_eq
  have := l.isLt
  rw [lo8_toNat, join16_toNat]
  omega

@[simp] theorem join16_hi8_lo8 (w : Word) : join16 (hi8 w) (lo8 w) = w := by
  apply BitVec.eq_of_toNat_eq
  rw [join16_toNat, hi8_toNat, lo8_toNat]
  omega

/-! ## Fetch -/

/-- What follows an instruction's own bytes does not matter to its decoding. -/
theorem decodeBytes_of_count_zero {op : Byte} (h : operandCount op = 0) (x y : Byte) :
    decodeBytes op x y = decodeBytes op 0 0 := by
  have hcb : op ≠ Config.cbByte := by rintro rfl; exact absurd h (by decide)
  simp only [decodeBytes, hcb, if_false, decodeBase]
  unfold operandCount at h
  cases he : baseEntry op <;> simp_all [Entry.operandCount, Entry.instr]

theorem decodeBytes_of_count_one {op : Byte} (h : operandCount op = 1) (x y : Byte) :
    decodeBytes op x y = decodeBytes op x 0 := by
  by_cases hcb : op = Config.cbByte
  · simp [decodeBytes, hcb]
  · simp only [decodeBytes, hcb, if_false, decodeBase]
    unfold operandCount at h
    cases he : baseEntry op <;> simp_all [Entry.operandCount, Entry.instr]

theorem operandCount_cases (op : Byte) : operandCount op = 0 ∨ operandCount op = 1 ∨ operandCount op = 2 := by
  unfold operandCount
  cases baseEntry op <;> simp [Entry.operandCount]

/-- A byte that stands for itself decodes to its entry, whatever follows. -/
theorem decode_of_count_zero {op : Byte} (h : operandCount op = 0) (rest : List Byte) :
    decode (op :: rest) = .ok (decodeBytes op 0 0) rest := by
  simp only [decode, h, Nat.not_lt_zero, if_false, List.drop_zero]
  rw [decodeBytes_of_count_zero h]

theorem decode_of_count_one {op : Byte} (h : operandCount op = 1) (x : Byte) (rest : List Byte) :
    decode (op :: x :: rest) = .ok (decodeBytes op x 0) rest := by
  have hl : ¬(x :: rest).length < 1 := by simp
  simp only [decode, h, hl, if_false, List.drop_succ_cons, List.drop_zero]
  rw [decodeBytes_of_count_one h]
  rfl

theorem decode_of_count_two {op : Byte} (h : operandCount op = 2) (x y : Byte) (rest : List Byte) :
    decode (op :: x :: y :: rest) = .ok (decodeBytes op x y) rest := by
  have hl : ¬(x :: y :: rest).length < 2 := by simp
  simp only [decode, h, hl, if_false, List.drop_succ_cons, List.drop_zero]
  rfl

/-- The byte after 0xCB selects from the prefixed table. -/
theorem decode_prefixed (op2 : Byte) (rest : List Byte) :
    decode (0xCB#8 :: op2 :: rest) = .ok (decodePrefixed op2) rest :=
  decode_of_count_one (by decide) op2 rest

theorem word_add_two (w : Word) : w + 1#16 + 1#16 = w + 2#16 := by bv_omega

theorem word_add_three (w : Word) : w + 2#16 + 1#16 = w + 3#16 := by bv_omega

/-- Everything a fetch does with the flat memory: PC past the instruction, its bytes read in order, nothing else. -/
theorem State.fetchInstr_eq (s : State) {P : Params} (hP : P.mem = Mem.flat) : s.fetchInstr P =
    (decodeBytes (s.mem.read s.pc) (s.mem.read (s.pc + 1)) (s.mem.read (s.pc + 2)),
      { s with
        pc := s.pc + BitVec.ofNat 16 (1 + operandCount (s.mem.read s.pc))
        port := s.port ++ (List.range (1 + operandCount (s.mem.read s.pc))).map
          (fun k => .read (s.pc + BitVec.ofNat 16 k) (s.mem.read (s.pc + BitVec.ofNat 16 k))) }) := by
  unfold State.fetchInstr
  obtain h | h | h := operandCount_cases (s.mem.read s.pc)
  · simp [h, State.fetch8, State.memRead, hP]
    exact (decodeBytes_of_count_zero h _ _).symm
  · simp [h, State.fetch8, State.memRead, hP, word_add_two, List.range_succ]
    exact (decodeBytes_of_count_one h _ _).symm
  · simp [h, State.fetch8, State.fetch16, State.memRead, hP, word_add_two, word_add_three, List.range_succ]

/-- What a fetch does with any `MEM`: the opcode is the byte it answers for PC, the byte after it, where the
instruction has one, the one it answers next, and only PC, what `MEM` holds and the port change. -/
theorem State.fetchInstr_any (s : State) (P : Params) :
    (∃ y, (s.fetchInstr P).1 = decodeBytes (P.mem.read s.mem s.pc).1
      (P.mem.read (P.mem.read s.mem s.pc).2 (s.pc + 1#16)).1 y) ∧
    ∃ w m l, (s.fetchInstr P).2 = { s with pc := w, mem := m, port := s.port ++ l } ∧ P.mem.Plays s.mem l m := by
  unfold State.fetchInstr
  obtain h | h | h := operandCount_cases (P.mem.read s.mem s.pc).1
  · refine ⟨⟨0, ?_⟩, ?_⟩
    · simpa [h] using (decodeBytes_of_count_zero h _ 0).symm
    · exact ⟨_, _, [.read s.pc _], by simp only [h, State.fetch8, State.memRead]; rfl, rfl, rfl⟩
  · refine ⟨⟨0, ?_⟩, ?_⟩
    · simp [h]
    · exact ⟨_, _, [.read s.pc _, .read (s.pc + 1#16) _],
        by simp only [h, State.fetch8, State.memRead, List.append_assoc]; rfl, rfl, rfl, rfl⟩
  · refine ⟨⟨(P.mem.read (P.mem.read (P.mem.read s.mem s.pc).2 (s.pc + 1#16)).2 (s.pc + 1#16 + 1#16)).1, ?_⟩, ?_⟩
    · simp [h]
    · exact ⟨_, _, [.read s.pc _, .read (s.pc + 1#16) _, .read (s.pc + 1#16 + 1#16) _],
        by simp only [h, State.fetch8, State.fetch16, State.memRead, List.append_assoc]; rfl, rfl, rfl, rfl, rfl⟩

/-! ## The stack -/

theorem word_sub_two (w : Word) : w - 1#16 - 1#16 = w - 2#16 := by bv_omega

theorem word_sub_one_ne_sub_two (w : Word) : w - 1#16 ≠ w - 2#16 := by bv_omega

/-- Everything a push does. -/
theorem State.push16_eq (w : Word) (s : State) (P : Params) : s.push16 w P = { s with
    sp := s.sp - 2#16
    mem := P.mem.write (P.mem.write s.mem (s.sp - 1#16) (hi8 w)) (s.sp - 2#16) (lo8 w)
    port := s.port ++ [.write (s.sp - 1#16) (hi8 w), .write (s.sp - 2#16) (lo8 w)] } := by
  simp [State.push16, State.memWrite, word_sub_two]

/-- Everything a pop does. -/
theorem State.pop16_eq (s : State) (P : Params) : s.pop16 P =
    (join16 (P.mem.read (P.mem.read s.mem s.sp).2 (s.sp + 1#16)).1 (P.mem.read s.mem s.sp).1, { s with
      sp := s.sp + 2#16
      mem := (P.mem.read (P.mem.read s.mem s.sp).2 (s.sp + 1#16)).2
      port := s.port ++ [.read s.sp (P.mem.read s.mem s.sp).1,
        .read (s.sp + 1#16) (P.mem.read (P.mem.read s.mem s.sp).2 (s.sp + 1#16)).1] }) := by
  simp [State.pop16, State.memRead, word_add_two]

/-- Everything the return from an exception does. -/
theorem State.returnFromInterrupt_eq (s : State) (P : Params) : s.returnFromInterrupt P =
    { (s.pop16 P).2 with pc := (s.pop16 P).1, ime := true, eiDelay := 0 } := rfl

/-! ## The end of a step -/

/-- Everything a charge does: it counts, or it ticks the divider once and keeps the remainder. -/
theorem State.charge_eq (n : Nat) (s : State) (P : Params) : s.charge n P =
    if 255 < s.acc.toNat + n then
      { s with
        acc := BitVec.ofNat 8 (s.acc.toNat + n - 256)
        mem := P.mem.write (P.mem.read s.mem Config.divAddr).2 Config.divAddr
          ((P.mem.read s.mem Config.divAddr).1 + 1#8)
        port := s.port ++ [.read Config.divAddr (P.mem.read s.mem Config.divAddr).1,
          .write Config.divAddr ((P.mem.read s.mem Config.divAddr).1 + 1#8)] }
    else { s with acc := BitVec.ofNat 8 (s.acc.toNat + n) } := by
  unfold State.charge
  dsimp only
  split
  · simp [State.memWrite, State.memRead]
  · rfl

theorem leastPending_eq_none (p : Byte) : leastPending p = none ↔ ∀ i : Source, i.isIn p = false := by
  constructor
  · intro h i
    unfold leastPending at h
    cases i <;> split_ifs at h <;> simp_all
  · intro h
    simp [leastPending, h]

/-- The source found is set, and no source with a lower bit number is. -/
theorem leastPending_eq_some (p : Byte) (i : Source) :
    leastPending p = some i ↔ i.isIn p = true ∧ ∀ j : Source, j.bit < i.bit → j.isIn p = false := by
  constructor
  · intro h
    unfold leastPending at h
    split_ifs at h <;> cases h <;> refine ⟨‹_›, fun j hj => ?_⟩ <;> cases j <;> simp_all [Source.bit]
  · rintro ⟨hi, hj⟩
    have h0 := hj .vblank
    have h1 := hj .lcdStat
    have h2 := hj .timer
    have h3 := hj .serial
    cases i <;> simp_all [leastPending, Source.bit]

/-- The mask 0x1F keeps every source's bit. -/
theorem Source.isIn_pending (i : Source) (x y : Byte) :
    i.isIn (x &&& y &&& 0x1F#8) = (x.getLsbD i.bit && y.getLsbD i.bit) := by
  cases i <;> simp [Source.isIn, Source.bit]

/-- Everything a dispatch does. -/
theorem State.dispatch_eq (i : Source) (ifv : Byte) (s : State) (P : Params) : s.dispatch i ifv P =
    State.charge 20 { s with
      ime := false
      eiDelay := 0
      pc := P.vec i
      sp := s.sp - 2#16
      mem := P.mem.write (P.mem.write (P.mem.write s.mem Config.ifAddr (ifv &&& ~~~(1#8 <<< i.bit)))
        (s.sp - 1#16) (hi8 s.pc)) (s.sp - 2#16) (lo8 s.pc)
      port := s.port ++ [.write Config.ifAddr (ifv &&& ~~~(1#8 <<< i.bit)), .write (s.sp - 1#16) (hi8 s.pc),
        .write (s.sp - 2#16) (lo8 s.pc)]
      tcycles := s.tcycles + 20 } P := by
  simp [State.dispatch, State.push16_eq, State.memWrite, Cost.dispatch]

/-! ## What `MEM` keeps, the end of a step keeps -/

section Keeps

variable {P : Params} {I : Memory → Prop} {s : State}

theorem State.dispatch_keeps (hM : P.mem.Keeps I) (h : I s.mem) (i : Source) (ifv : Byte) :
    I (s.dispatch i ifv P).mem := by
  rw [State.dispatch_eq]
  exact State.charge_keeps hM (hM.2 _ _ _ (hM.2 _ _ _ (hM.2 _ _ _ h))) _

theorem State.interruptCheck_keeps (hM : P.mem.Keeps I) (h : I s.mem) : I (s.interruptCheck P).mem := by
  have h2 : I (s.readIfIe P).2.2.mem := hM.1 _ _ (hM.1 _ _ h)
  obtain ⟨-, e⟩ | ⟨-, -, e⟩ | ⟨-, i, -, e⟩ := s.interruptCheck_cases P <;> rw [e]
  · exact h
  · exact h2
  · exact State.dispatch_keeps hM h2 i _

theorem State.endOfStep_keeps (hM : P.mem.Keeps I) (h : I s.mem) : I (s.endOfStep P).mem := by
  refine State.interruptCheck_keeps hM ?_
  rw [State.eiDelayTick_mem]
  exact State.charge_keeps hM h _

end Keeps

/-! ## Played transactions -/

theorem Mem.plays_append {M : Mem} {m n : Memory} (l k : List Access) :
    M.Plays m (l ++ k) n ↔ ∃ x, M.Plays m l x ∧ M.Plays x k n := by
  induction l generalizing m with
  | nil => simp [Mem.Plays]
  | cons a l ih => cases a <;> simp [Mem.Plays, ih, and_assoc]

/-! ## The step -/

/-- Everything a step does with the flat memory: the decoded instruction, executed past its own bytes, then phases 3
to 5. -/
theorem stepWith_eq (s : State) {P : Params} (hP : P.mem = Mem.flat) : stepWith s P =
    match execForm (decodeBytes (s.mem.read s.pc) (s.mem.read (s.pc + 1#16)) (s.mem.read (s.pc + 2#16))).form
      { s with
        pc := s.pc + BitVec.ofNat 16 (1 + operandCount (s.mem.read s.pc))
        port := (List.range (1 + operandCount (s.mem.read s.pc))).map
          (fun k => .read (s.pc + BitVec.ofNat 16 k) (s.mem.read (s.pc + BitVec.ofNat 16 k)))
        tcycles := 0 } P with
    | .next t => .next (t.endOfStep P)
    | .fault r => .fault r
    | .refused r => .refused r := by
  simp only [stepWith, State.fetchInstr_eq _ hP]
  rfl

end Sys2Proof.Machine
end

