-- ==== Sys2Proof/Laws/Exec.lean ====
section
/-! SUPPORT. Every arm of `exec` is the shared operation of its format at the default parameters: one lemma, so that a
proof about a family never splits the 512 constructors again. -/

namespace Sys2Proof.Machine

/-- Every arm is the shared operation of its format, at the default parameters. -/
theorem exec_eq_execForm (i : Instr) (s : State) : exec i s = execForm i.form s Params.default := by
  cases i <;> rfl

/-- The step is the one at the default parameters. -/
theorem step_eq_stepWith (s : State) : step s = stepWith s Params.default := by
  simp only [step, stepWith, exec_eq_execForm]
  rfl

/-! ## The shared operations, answered -/

theorem complete_eq (n : Nat) (s : State) : complete n s = .next { s with tcycles := n } := rfl

/-- A completed instruction's next state is the operation's state with the cost reported. -/
theorem complete_next {n : Nat} {s t : State} (h : complete n s = .next t) : t = { s with tcycles := n } := by
  simpa [complete_eq] using h.symm

/-- The format the bit patterns of R91 give the byte after 0xCB. -/
def prefixedForm (op2 : Byte) : Form :=
  let y := op2.extractLsb' 3 3
  let z := op2.extractLsb' 0 3
  if op2.extractLsb' 6 2 = 1 then
    match reg8Of z with
    | some r => .cbBitR y.toFin r
    | none => .cbBitHl y.toFin
  else if op2.extractLsb' 6 2 = 0 ∧ y.toNat < 4 then
    match reg8Of z with
    | some r => .cbRotR (rotKindOf y) r
    | none => .cbRotHl (rotKindOf y)
  else .noEntryCb op2

/-- The prefix executes that format. -/
theorem prefixedEntry_eq (op2 : Byte) (s : State) (P : Params) :
    prefixedEntry op2 s P = execForm (prefixedForm op2) s P := by
  unfold prefixedEntry prefixedForm
  dsimp only
  split_ifs
  · cases reg8Of (op2.extractLsb' 0 3) <;> rfl
  · cases reg8Of (op2.extractLsb' 0 3) <;> rfl
  · rfl

end Sys2Proof.Machine
end

