-- ==== Sys2Proof/Laws/Flags.lean ====
section
/-! SUPPORT. Flags read from F: as bits of any F, and as the arguments of `flagByte`. -/

namespace Sys2Proof.Machine

theorem State.flagZ_eq (s : State) : s.flagZ = s.f.getLsbD 7 := by
  have : ∀ f : Byte, (f &&& zMask == zMask) = f.getLsbD 7 := by decide
  exact this s.f

theorem State.flagN_eq (s : State) : s.flagN = s.f.getLsbD 6 := by
  have : ∀ f : Byte, (f &&& nMask == nMask) = f.getLsbD 6 := by decide
  exact this s.f

theorem State.flagH_eq (s : State) : s.flagH = s.f.getLsbD 5 := by
  have : ∀ f : Byte, (f &&& hMask == hMask) = f.getLsbD 5 := by decide
  exact this s.f

theorem State.flagC_eq (s : State) : s.flagC = s.f.getLsbD 4 := by
  have : ∀ f : Byte, (f &&& cMask == cMask) = f.getLsbD 4 := by decide
  exact this s.f

theorem flagByte_bits : ∀ z n h c : Bool, (flagByte z n h c).getLsbD 7 = z ∧ (flagByte z n h c).getLsbD 6 = n ∧
    (flagByte z n h c).getLsbD 5 = h ∧ (flagByte z n h c).getLsbD 4 = c := by decide

/-- Flags written as a byte satisfy R33. -/
theorem flagByte_low : ∀ z n h c : Bool, flagByte z n h c &&& 0x0F#8 = 0#8 := by decide

theorem State.flagZ_of_f {s : State} {z n h c : Bool} (e : s.f = flagByte z n h c) : s.flagZ = z := by
  rw [State.flagZ_eq, e, (flagByte_bits z n h c).1]

theorem State.flagN_of_f {s : State} {z n h c : Bool} (e : s.f = flagByte z n h c) : s.flagN = n := by
  rw [State.flagN_eq, e, (flagByte_bits z n h c).2.1]

theorem State.flagH_of_f {s : State} {z n h c : Bool} (e : s.f = flagByte z n h c) : s.flagH = h := by
  rw [State.flagH_eq, e, (flagByte_bits z n h c).2.2.1]

theorem State.flagC_of_f {s : State} {z n h c : Bool} (e : s.f = flagByte z n h c) : s.flagC = c := by
  rw [State.flagC_eq, e, (flagByte_bits z n h c).2.2.2]

/-- The low nibble, as a number. -/
theorem byte_low_nibble (x : Byte) : (x &&& 0x0F#8).toNat = x.toNat % 16 := by
  revert x; decide

end Sys2Proof.Machine
end

