-- ==== Sys2Proof/Laws/PerInstr.lean ====
section
/-! SUPPORT. The per-instruction law `EncodedLength`: an instruction's encoding is as long as its first byte says
(R92), one lemma per constructor. -/

namespace Sys2Proof.Laws.EncodedLength

/-- The encoding is an opcode byte and as many bytes more as the base table's entry for it counts. -/
def Statement (i : Instr) : Prop :=
  match encode i with
  | [] => False
  | op :: operands => operands.length = operandCount op

theorem ld_BC_d16 (d16 : Word) : Statement (.ld_BC_d16 d16) := rfl
theorem ld_B_d8 (d8 : Byte) : Statement (.ld_B_d8 d8) := rfl
theorem ld_C_d8 (d8 : Byte) : Statement (.ld_C_d8 d8) := rfl
theorem ld_DE_d16 (d16 : Word) : Statement (.ld_DE_d16 d16) := rfl
theorem ld_D_d8 (d8 : Byte) : Statement (.ld_D_d8 d8) := rfl
theorem jr_i8 (i8 : Byte) : Statement (.jr_i8 i8) := rfl
theorem ld_E_d8 (d8 : Byte) : Statement (.ld_E_d8 d8) := rfl
theorem jr_NZ_i8 (i8 : Byte) : Statement (.jr_NZ_i8 i8) := rfl
theorem ld_HL_d16 (d16 : Word) : Statement (.ld_HL_d16 d16) := rfl
theorem ld_H_d8 (d8 : Byte) : Statement (.ld_H_d8 d8) := rfl
theorem jr_Z_i8 (i8 : Byte) : Statement (.jr_Z_i8 i8) := rfl
theorem ld_L_d8 (d8 : Byte) : Statement (.ld_L_d8 d8) := rfl
theorem jr_NC_i8 (i8 : Byte) : Statement (.jr_NC_i8 i8) := rfl
theorem ld_SP_d16 (d16 : Word) : Statement (.ld_SP_d16 d16) := rfl
theorem jr_C_i8 (i8 : Byte) : Statement (.jr_C_i8 i8) := rfl
theorem ld_A_d8 (d8 : Byte) : Statement (.ld_A_d8 d8) := rfl
theorem add_A_d8 (d8 : Byte) : Statement (.add_A_d8 d8) := rfl
theorem prefixCB (op2 : Byte) : Statement (.prefixCB op2) := rfl
theorem call_u16 (u16 : Word) : Statement (.call_u16 u16) := rfl
theorem sub_d8 (d8 : Byte) : Statement (.sub_d8 d8) := rfl
theorem ldh_mA8_A (a8 : Byte) : Statement (.ldh_mA8_A a8) := rfl
theorem ld_mA16_A (a16 : Word) : Statement (.ld_mA16_A a16) := rfl
theorem ldh_A_mA8 (a8 : Byte) : Statement (.ldh_A_mA8 a8) := rfl
theorem ld_A_mA16 (a16 : Word) : Statement (.ld_A_mA16 a16) := rfl
theorem cp_d8 (d8 : Byte) : Statement (.cp_d8 d8) := rfl
theorem noEntry_00 : Statement .noEntry_00 := rfl
theorem ld_mBC_A : Statement .ld_mBC_A := rfl
theorem inc_BC : Statement .inc_BC := rfl
theorem inc_B : Statement .inc_B := rfl
theorem dec_B : Statement .dec_B := rfl
theorem noEntry_07 : Statement .noEntry_07 := rfl
theorem noEntry_08 : Statement .noEntry_08 := rfl
theorem noEntry_09 : Statement .noEntry_09 := rfl
theorem ld_A_mBC : Statement .ld_A_mBC := rfl
theorem dec_BC : Statement .dec_BC := rfl
theorem inc_C : Statement .inc_C := rfl
theorem dec_C : Statement .dec_C := rfl
theorem noEntry_0F : Statement .noEntry_0F := rfl
theorem noEntry_10 : Statement .noEntry_10 := rfl
theorem ld_mDE_A : Statement .ld_mDE_A := rfl
theorem inc_DE : Statement .inc_DE := rfl
theorem inc_D : Statement .inc_D := rfl
theorem dec_D : Statement .dec_D := rfl
theorem rla : Statement .rla := rfl
theorem noEntry_19 : Statement .noEntry_19 := rfl
theorem ld_A_mDE : Statement .ld_A_mDE := rfl
theorem dec_DE : Statement .dec_DE := rfl
theorem inc_E : Statement .inc_E := rfl
theorem dec_E : Statement .dec_E := rfl
theorem rra : Statement .rra := rfl
theorem noEntry_22 : Statement .noEntry_22 := rfl
theorem inc_HL : Statement .inc_HL := rfl
theorem inc_H : Statement .inc_H := rfl
theorem dec_H : Statement .dec_H := rfl
theorem noEntry_27 : Statement .noEntry_27 := rfl
theorem noEntry_29 : Statement .noEntry_29 := rfl
theorem noEntry_2A : Statement .noEntry_2A := rfl
theorem dec_HL : Statement .dec_HL := rfl
theorem inc_L : Statement .inc_L := rfl
theorem dec_L : Statement .dec_L := rfl
theorem noEntry_2F : Statement .noEntry_2F := rfl
theorem noEntry_32 : Statement .noEntry_32 := rfl
theorem inc_SP : Statement .inc_SP := rfl
theorem noEntry_34 : Statement .noEntry_34 := rfl
theorem noEntry_35 : Statement .noEntry_35 := rfl
theorem noEntry_36 : Statement .noEntry_36 := rfl
theorem noEntry_37 : Statement .noEntry_37 := rfl
theorem noEntry_39 : Statement .noEntry_39 := rfl
theorem noEntry_3A : Statement .noEntry_3A := rfl
theorem dec_SP : Statement .dec_SP := rfl
theorem inc_A : Statement .inc_A := rfl
theorem dec_A : Statement .dec_A := rfl
theorem noEntry_3F : Statement .noEntry_3F := rfl
theorem ld_B_B : Statement .ld_B_B := rfl
theorem ld_B_C : Statement .ld_B_C := rfl
theorem ld_B_D : Statement .ld_B_D := rfl
theorem ld_B_E : Statement .ld_B_E := rfl
theorem ld_B_H : Statement .ld_B_H := rfl
theorem ld_B_L : Statement .ld_B_L := rfl
theorem ld_B_mHL : Statement .ld_B_mHL := rfl
theorem ld_B_A : Statement .ld_B_A := rfl
theorem ld_C_B : Statement .ld_C_B := rfl
theorem ld_C_C : Statement .ld_C_C := rfl
theorem ld_C_D : Statement .ld_C_D := rfl
theorem ld_C_E : Statement .ld_C_E := rfl
theorem ld_C_H : Statement .ld_C_H := rfl
theorem ld_C_L : Statement .ld_C_L := rfl
theorem ld_C_mHL : Statement .ld_C_mHL := rfl
theorem ld_C_A : Statement .ld_C_A := rfl
theorem ld_D_B : Statement .ld_D_B := rfl
theorem ld_D_C : Statement .ld_D_C := rfl
theorem ld_D_D : Statement .ld_D_D := rfl
theorem ld_D_E : Statement .ld_D_E := rfl
theorem ld_D_H : Statement .ld_D_H := rfl
theorem ld_D_L : Statement .ld_D_L := rfl
theorem ld_D_mHL : Statement .ld_D_mHL := rfl
theorem ld_D_A : Statement .ld_D_A := rfl
theorem ld_E_B : Statement .ld_E_B := rfl
theorem ld_E_C : Statement .ld_E_C := rfl
theorem ld_E_D : Statement .ld_E_D := rfl
theorem ld_E_E : Statement .ld_E_E := rfl
theorem ld_E_H : Statement .ld_E_H := rfl
theorem ld_E_L : Statement .ld_E_L := rfl
theorem ld_E_mHL : Statement .ld_E_mHL := rfl
theorem ld_E_A : Statement .ld_E_A := rfl
theorem ld_H_B : Statement .ld_H_B := rfl
theorem ld_H_C : Statement .ld_H_C := rfl
theorem ld_H_D : Statement .ld_H_D := rfl
theorem ld_H_E : Statement .ld_H_E := rfl
theorem ld_H_H : Statement .ld_H_H := rfl
theorem ld_H_L : Statement .ld_H_L := rfl
theorem ld_H_mHL : Statement .ld_H_mHL := rfl
theorem ld_H_A : Statement .ld_H_A := rfl
theorem ld_L_B : Statement .ld_L_B := rfl
theorem ld_L_C : Statement .ld_L_C := rfl
theorem ld_L_D : Statement .ld_L_D := rfl
theorem ld_L_E : Statement .ld_L_E := rfl
theorem ld_L_H : Statement .ld_L_H := rfl
theorem ld_L_L : Statement .ld_L_L := rfl
theorem ld_L_mHL : Statement .ld_L_mHL := rfl
theorem ld_L_A : Statement .ld_L_A := rfl
theorem ld_mHL_B : Statement .ld_mHL_B := rfl
theorem ld_mHL_C : Statement .ld_mHL_C := rfl
theorem ld_mHL_D : Statement .ld_mHL_D := rfl
theorem ld_mHL_E : Statement .ld_mHL_E := rfl
theorem ld_mHL_H : Statement .ld_mHL_H := rfl
theorem ld_mHL_L : Statement .ld_mHL_L := rfl
theorem noEntry_76 : Statement .noEntry_76 := rfl
theorem ld_mHL_A : Statement .ld_mHL_A := rfl
theorem ld_A_B : Statement .ld_A_B := rfl
theorem ld_A_C : Statement .ld_A_C := rfl
theorem ld_A_D : Statement .ld_A_D := rfl
theorem ld_A_E : Statement .ld_A_E := rfl
theorem ld_A_H : Statement .ld_A_H := rfl
theorem ld_A_L : Statement .ld_A_L := rfl
theorem ld_A_mHL : Statement .ld_A_mHL := rfl
theorem ld_A_A : Statement .ld_A_A := rfl
theorem add_A_B : Statement .add_A_B := rfl
theorem add_A_C : Statement .add_A_C := rfl
theorem add_A_D : Statement .add_A_D := rfl
theorem add_A_E : Statement .add_A_E := rfl
theorem add_A_H : Statement .add_A_H := rfl
theorem add_A_L : Statement .add_A_L := rfl
theorem add_A_mHL : Statement .add_A_mHL := rfl
theorem add_A_A : Statement .add_A_A := rfl
theorem noEntry_88 : Statement .noEntry_88 := rfl
theorem noEntry_89 : Statement .noEntry_89 := rfl
theorem noEntry_8A : Statement .noEntry_8A := rfl
theorem noEntry_8B : Statement .noEntry_8B := rfl
theorem noEntry_8C : Statement .noEntry_8C := rfl
theorem noEntry_8D : Statement .noEntry_8D := rfl
theorem noEntry_8E : Statement .noEntry_8E := rfl
theorem noEntry_8F : Statement .noEntry_8F := rfl
theorem sub_B : Statement .sub_B := rfl
theorem sub_C : Statement .sub_C := rfl
theorem sub_D : Statement .sub_D := rfl
theorem sub_E : Statement .sub_E := rfl
theorem sub_H : Statement .sub_H := rfl
theorem sub_L : Statement .sub_L := rfl
theorem sub_mHL : Statement .sub_mHL := rfl
theorem sub_A : Statement .sub_A := rfl
theorem noEntry_98 : Statement .noEntry_98 := rfl
theorem noEntry_99 : Statement .noEntry_99 := rfl
theorem noEntry_9A : Statement .noEntry_9A := rfl
theorem noEntry_9B : Statement .noEntry_9B := rfl
theorem noEntry_9C : Statement .noEntry_9C := rfl
theorem noEntry_9D : Statement .noEntry_9D := rfl
theorem noEntry_9E : Statement .noEntry_9E := rfl
theorem noEntry_9F : Statement .noEntry_9F := rfl
theorem noEntry_A0 : Statement .noEntry_A0 := rfl
theorem noEntry_A1 : Statement .noEntry_A1 := rfl
theorem noEntry_A2 : Statement .noEntry_A2 := rfl
theorem noEntry_A3 : Statement .noEntry_A3 := rfl
theorem noEntry_A4 : Statement .noEntry_A4 := rfl
theorem noEntry_A5 : Statement .noEntry_A5 := rfl
theorem noEntry_A6 : Statement .noEntry_A6 := rfl
theorem noEntry_A7 : Statement .noEntry_A7 := rfl
theorem noEntry_A8 : Statement .noEntry_A8 := rfl
theorem noEntry_A9 : Statement .noEntry_A9 := rfl
theorem noEntry_AA : Statement .noEntry_AA := rfl
theorem noEntry_AB : Statement .noEntry_AB := rfl
theorem noEntry_AC : Statement .noEntry_AC := rfl
theorem noEntry_AD : Statement .noEntry_AD := rfl
theorem noEntry_AE : Statement .noEntry_AE := rfl
theorem noEntry_AF : Statement .noEntry_AF := rfl
theorem noEntry_B0 : Statement .noEntry_B0 := rfl
theorem noEntry_B1 : Statement .noEntry_B1 := rfl
theorem noEntry_B2 : Statement .noEntry_B2 := rfl
theorem noEntry_B3 : Statement .noEntry_B3 := rfl
theorem noEntry_B4 : Statement .noEntry_B4 := rfl
theorem noEntry_B5 : Statement .noEntry_B5 := rfl
theorem noEntry_B6 : Statement .noEntry_B6 := rfl
theorem noEntry_B7 : Statement .noEntry_B7 := rfl
theorem cp_B : Statement .cp_B := rfl
theorem cp_C : Statement .cp_C := rfl
theorem cp_D : Statement .cp_D := rfl
theorem cp_E : Statement .cp_E := rfl
theorem cp_H : Statement .cp_H := rfl
theorem cp_L : Statement .cp_L := rfl
theorem cp_mHL : Statement .cp_mHL := rfl
theorem cp_A : Statement .cp_A := rfl
theorem noEntry_C0 : Statement .noEntry_C0 := rfl
theorem pop_BC : Statement .pop_BC := rfl
theorem noEntry_C2 : Statement .noEntry_C2 := rfl
theorem noEntry_C3 : Statement .noEntry_C3 := rfl
theorem noEntry_C4 : Statement .noEntry_C4 := rfl
theorem push_BC : Statement .push_BC := rfl
theorem noEntry_C7 : Statement .noEntry_C7 := rfl
theorem noEntry_C8 : Statement .noEntry_C8 := rfl
theorem ret : Statement .ret := rfl
theorem noEntry_CA : Statement .noEntry_CA := rfl
theorem noEntry_CC : Statement .noEntry_CC := rfl
theorem noEntry_CE : Statement .noEntry_CE := rfl
theorem noEntry_CF : Statement .noEntry_CF := rfl
theorem noEntry_D0 : Statement .noEntry_D0 := rfl
theorem pop_DE : Statement .pop_DE := rfl
theorem noEntry_D2 : Statement .noEntry_D2 := rfl
theorem noEntry_D3 : Statement .noEntry_D3 := rfl
theorem noEntry_D4 : Statement .noEntry_D4 := rfl
theorem push_DE : Statement .push_DE := rfl
theorem noEntry_D7 : Statement .noEntry_D7 := rfl
theorem noEntry_D8 : Statement .noEntry_D8 := rfl
theorem reti : Statement .reti := rfl
theorem noEntry_DA : Statement .noEntry_DA := rfl
theorem noEntry_DB : Statement .noEntry_DB := rfl
theorem noEntry_DC : Statement .noEntry_DC := rfl
theorem noEntry_DD : Statement .noEntry_DD := rfl
theorem noEntry_DE : Statement .noEntry_DE := rfl
theorem noEntry_DF : Statement .noEntry_DF := rfl
theorem pop_HL : Statement .pop_HL := rfl
theorem ld_mC_A : Statement .ld_mC_A := rfl
theorem noEntry_E3 : Statement .noEntry_E3 := rfl
theorem noEntry_E4 : Statement .noEntry_E4 := rfl
theorem push_HL : Statement .push_HL := rfl
theorem noEntry_E6 : Statement .noEntry_E6 := rfl
theorem noEntry_E7 : Statement .noEntry_E7 := rfl
theorem noEntry_E8 : Statement .noEntry_E8 := rfl
theorem noEntry_E9 : Statement .noEntry_E9 := rfl
theorem noEntry_EB : Statement .noEntry_EB := rfl
theorem noEntry_EC : Statement .noEntry_EC := rfl
theorem noEntry_ED : Statement .noEntry_ED := rfl
theorem noEntry_EE : Statement .noEntry_EE := rfl
theorem noEntry_EF : Statement .noEntry_EF := rfl
theorem pop_AF : Statement .pop_AF := rfl
theorem ld_A_mC : Statement .ld_A_mC := rfl
theorem di : Statement .di := rfl
theorem noEntry_F4 : Statement .noEntry_F4 := rfl
theorem push_AF : Statement .push_AF := rfl
theorem noEntry_F6 : Statement .noEntry_F6 := rfl
theorem noEntry_F7 : Statement .noEntry_F7 := rfl
theorem noEntry_F8 : Statement .noEntry_F8 := rfl
theorem noEntry_F9 : Statement .noEntry_F9 := rfl
theorem ei : Statement .ei := rfl
theorem noEntry_FC : Statement .noEntry_FC := rfl
theorem noEntry_FD : Statement .noEntry_FD := rfl
theorem noEntry_FF : Statement .noEntry_FF := rfl
theorem rlc_B : Statement .rlc_B := rfl
theorem rlc_C : Statement .rlc_C := rfl
theorem rlc_D : Statement .rlc_D := rfl
theorem rlc_E : Statement .rlc_E := rfl
theorem rlc_H : Statement .rlc_H := rfl
theorem rlc_L : Statement .rlc_L := rfl
theorem rlc_mHL : Statement .rlc_mHL := rfl
theorem rlc_A : Statement .rlc_A := rfl
theorem rrc_B : Statement .rrc_B := rfl
theorem rrc_C : Statement .rrc_C := rfl
theorem rrc_D : Statement .rrc_D := rfl
theorem rrc_E : Statement .rrc_E := rfl
theorem rrc_H : Statement .rrc_H := rfl
theorem rrc_L : Statement .rrc_L := rfl
theorem rrc_mHL : Statement .rrc_mHL := rfl
theorem rrc_A : Statement .rrc_A := rfl
theorem rl_B : Statement .rl_B := rfl
theorem rl_C : Statement .rl_C := rfl
theorem rl_D : Statement .rl_D := rfl
theorem rl_E : Statement .rl_E := rfl
theorem rl_H : Statement .rl_H := rfl
theorem rl_L : Statement .rl_L := rfl
theorem rl_mHL : Statement .rl_mHL := rfl
theorem rl_A : Statement .rl_A := rfl
theorem rr_B : Statement .rr_B := rfl
theorem rr_C : Statement .rr_C := rfl
theorem rr_D : Statement .rr_D := rfl
theorem rr_E : Statement .rr_E := rfl
theorem rr_H : Statement .rr_H := rfl
theorem rr_L : Statement .rr_L := rfl
theorem rr_mHL : Statement .rr_mHL := rfl
theorem rr_A : Statement .rr_A := rfl
theorem noEntry_CB_20 : Statement .noEntry_CB_20 := rfl
theorem noEntry_CB_21 : Statement .noEntry_CB_21 := rfl
theorem noEntry_CB_22 : Statement .noEntry_CB_22 := rfl
theorem noEntry_CB_23 : Statement .noEntry_CB_23 := rfl
theorem noEntry_CB_24 : Statement .noEntry_CB_24 := rfl
theorem noEntry_CB_25 : Statement .noEntry_CB_25 := rfl
theorem noEntry_CB_26 : Statement .noEntry_CB_26 := rfl
theorem noEntry_CB_27 : Statement .noEntry_CB_27 := rfl
theorem noEntry_CB_28 : Statement .noEntry_CB_28 := rfl
theorem noEntry_CB_29 : Statement .noEntry_CB_29 := rfl
theorem noEntry_CB_2A : Statement .noEntry_CB_2A := rfl
theorem noEntry_CB_2B : Statement .noEntry_CB_2B := rfl
theorem noEntry_CB_2C : Statement .noEntry_CB_2C := rfl
theorem noEntry_CB_2D : Statement .noEntry_CB_2D := rfl
theorem noEntry_CB_2E : Statement .noEntry_CB_2E := rfl
theorem noEntry_CB_2F : Statement .noEntry_CB_2F := rfl
theorem noEntry_CB_30 : Statement .noEntry_CB_30 := rfl
theorem noEntry_CB_31 : Statement .noEntry_CB_31 := rfl
theorem noEntry_CB_32 : Statement .noEntry_CB_32 := rfl
theorem noEntry_CB_33 : Statement .noEntry_CB_33 := rfl
theorem noEntry_CB_34 : Statement .noEntry_CB_34 := rfl
theorem noEntry_CB_35 : Statement .noEntry_CB_35 := rfl
theorem noEntry_CB_36 : Statement .noEntry_CB_36 := rfl
theorem noEntry_CB_37 : Statement .noEntry_CB_37 := rfl
theorem noEntry_CB_38 : Statement .noEntry_CB_38 := rfl
theorem noEntry_CB_39 : Statement .noEntry_CB_39 := rfl
theorem noEntry_CB_3A : Statement .noEntry_CB_3A := rfl
theorem noEntry_CB_3B : Statement .noEntry_CB_3B := rfl
theorem noEntry_CB_3C : Statement .noEntry_CB_3C := rfl
theorem noEntry_CB_3D : Statement .noEntry_CB_3D := rfl
theorem noEntry_CB_3E : Statement .noEntry_CB_3E := rfl
theorem noEntry_CB_3F : Statement .noEntry_CB_3F := rfl
theorem bit_0_B : Statement .bit_0_B := rfl
theorem bit_0_C : Statement .bit_0_C := rfl
theorem bit_0_D : Statement .bit_0_D := rfl
theorem bit_0_E : Statement .bit_0_E := rfl
theorem bit_0_H : Statement .bit_0_H := rfl
theorem bit_0_L : Statement .bit_0_L := rfl
theorem bit_0_mHL : Statement .bit_0_mHL := rfl
theorem bit_0_A : Statement .bit_0_A := rfl
theorem bit_1_B : Statement .bit_1_B := rfl
theorem bit_1_C : Statement .bit_1_C := rfl
theorem bit_1_D : Statement .bit_1_D := rfl
theorem bit_1_E : Statement .bit_1_E := rfl
theorem bit_1_H : Statement .bit_1_H := rfl
theorem bit_1_L : Statement .bit_1_L := rfl
theorem bit_1_mHL : Statement .bit_1_mHL := rfl
theorem bit_1_A : Statement .bit_1_A := rfl
theorem bit_2_B : Statement .bit_2_B := rfl
theorem bit_2_C : Statement .bit_2_C := rfl
theorem bit_2_D : Statement .bit_2_D := rfl
theorem bit_2_E : Statement .bit_2_E := rfl
theorem bit_2_H : Statement .bit_2_H := rfl
theorem bit_2_L : Statement .bit_2_L := rfl
theorem bit_2_mHL : Statement .bit_2_mHL := rfl
theorem bit_2_A : Statement .bit_2_A := rfl
theorem bit_3_B : Statement .bit_3_B := rfl
theorem bit_3_C : Statement .bit_3_C := rfl
theorem bit_3_D : Statement .bit_3_D := rfl
theorem bit_3_E : Statement .bit_3_E := rfl
theorem bit_3_H : Statement .bit_3_H := rfl
theorem bit_3_L : Statement .bit_3_L := rfl
theorem bit_3_mHL : Statement .bit_3_mHL := rfl
theorem bit_3_A : Statement .bit_3_A := rfl
theorem bit_4_B : Statement .bit_4_B := rfl
theorem bit_4_C : Statement .bit_4_C := rfl
theorem bit_4_D : Statement .bit_4_D := rfl
theorem bit_4_E : Statement .bit_4_E := rfl
theorem bit_4_H : Statement .bit_4_H := rfl
theorem bit_4_L : Statement .bit_4_L := rfl
theorem bit_4_mHL : Statement .bit_4_mHL := rfl
theorem bit_4_A : Statement .bit_4_A := rfl
theorem bit_5_B : Statement .bit_5_B := rfl
theorem bit_5_C : Statement .bit_5_C := rfl
theorem bit_5_D : Statement .bit_5_D := rfl
theorem bit_5_E : Statement .bit_5_E := rfl
theorem bit_5_H : Statement .bit_5_H := rfl
theorem bit_5_L : Statement .bit_5_L := rfl
theorem bit_5_mHL : Statement .bit_5_mHL := rfl
theorem bit_5_A : Statement .bit_5_A := rfl
theorem bit_6_B : Statement .bit_6_B := rfl
theorem bit_6_C : Statement .bit_6_C := rfl
theorem bit_6_D : Statement .bit_6_D := rfl
theorem bit_6_E : Statement .bit_6_E := rfl
theorem bit_6_H : Statement .bit_6_H := rfl
theorem bit_6_L : Statement .bit_6_L := rfl
theorem bit_6_mHL : Statement .bit_6_mHL := rfl
theorem bit_6_A : Statement .bit_6_A := rfl
theorem bit_7_B : Statement .bit_7_B := rfl
theorem bit_7_C : Statement .bit_7_C := rfl
theorem bit_7_D : Statement .bit_7_D := rfl
theorem bit_7_E : Statement .bit_7_E := rfl
theorem bit_7_H : Statement .bit_7_H := rfl
theorem bit_7_L : Statement .bit_7_L := rfl
theorem bit_7_mHL : Statement .bit_7_mHL := rfl
theorem bit_7_A : Statement .bit_7_A := rfl
theorem noEntry_CB_80 : Statement .noEntry_CB_80 := rfl
theorem noEntry_CB_81 : Statement .noEntry_CB_81 := rfl
theorem noEntry_CB_82 : Statement .noEntry_CB_82 := rfl
theorem noEntry_CB_83 : Statement .noEntry_CB_83 := rfl
theorem noEntry_CB_84 : Statement .noEntry_CB_84 := rfl
theorem noEntry_CB_85 : Statement .noEntry_CB_85 := rfl
theorem noEntry_CB_86 : Statement .noEntry_CB_86 := rfl
theorem noEntry_CB_87 : Statement .noEntry_CB_87 := rfl
theorem noEntry_CB_88 : Statement .noEntry_CB_88 := rfl
theorem noEntry_CB_89 : Statement .noEntry_CB_89 := rfl
theorem noEntry_CB_8A : Statement .noEntry_CB_8A := rfl
theorem noEntry_CB_8B : Statement .noEntry_CB_8B := rfl
theorem noEntry_CB_8C : Statement .noEntry_CB_8C := rfl
theorem noEntry_CB_8D : Statement .noEntry_CB_8D := rfl
theorem noEntry_CB_8E : Statement .noEntry_CB_8E := rfl
theorem noEntry_CB_8F : Statement .noEntry_CB_8F := rfl
theorem noEntry_CB_90 : Statement .noEntry_CB_90 := rfl
theorem noEntry_CB_91 : Statement .noEntry_CB_91 := rfl
theorem noEntry_CB_92 : Statement .noEntry_CB_92 := rfl
theorem noEntry_CB_93 : Statement .noEntry_CB_93 := rfl
theorem noEntry_CB_94 : Statement .noEntry_CB_94 := rfl
theorem noEntry_CB_95 : Statement .noEntry_CB_95 := rfl
theorem noEntry_CB_96 : Statement .noEntry_CB_96 := rfl
theorem noEntry_CB_97 : Statement .noEntry_CB_97 := rfl
theorem noEntry_CB_98 : Statement .noEntry_CB_98 := rfl
theorem noEntry_CB_99 : Statement .noEntry_CB_99 := rfl
theorem noEntry_CB_9A : Statement .noEntry_CB_9A := rfl
theorem noEntry_CB_9B : Statement .noEntry_CB_9B := rfl
theorem noEntry_CB_9C : Statement .noEntry_CB_9C := rfl
theorem noEntry_CB_9D : Statement .noEntry_CB_9D := rfl
theorem noEntry_CB_9E : Statement .noEntry_CB_9E := rfl
theorem noEntry_CB_9F : Statement .noEntry_CB_9F := rfl
theorem noEntry_CB_A0 : Statement .noEntry_CB_A0 := rfl
theorem noEntry_CB_A1 : Statement .noEntry_CB_A1 := rfl
theorem noEntry_CB_A2 : Statement .noEntry_CB_A2 := rfl
theorem noEntry_CB_A3 : Statement .noEntry_CB_A3 := rfl
theorem noEntry_CB_A4 : Statement .noEntry_CB_A4 := rfl
theorem noEntry_CB_A5 : Statement .noEntry_CB_A5 := rfl
theorem noEntry_CB_A6 : Statement .noEntry_CB_A6 := rfl
theorem noEntry_CB_A7 : Statement .noEntry_CB_A7 := rfl
theorem noEntry_CB_A8 : Statement .noEntry_CB_A8 := rfl
theorem noEntry_CB_A9 : Statement .noEntry_CB_A9 := rfl
theorem noEntry_CB_AA : Statement .noEntry_CB_AA := rfl
theorem noEntry_CB_AB : Statement .noEntry_CB_AB := rfl
theorem noEntry_CB_AC : Statement .noEntry_CB_AC := rfl
theorem noEntry_CB_AD : Statement .noEntry_CB_AD := rfl
theorem noEntry_CB_AE : Statement .noEntry_CB_AE := rfl
theorem noEntry_CB_AF : Statement .noEntry_CB_AF := rfl
theorem noEntry_CB_B0 : Statement .noEntry_CB_B0 := rfl
theorem noEntry_CB_B1 : Statement .noEntry_CB_B1 := rfl
theorem noEntry_CB_B2 : Statement .noEntry_CB_B2 := rfl
theorem noEntry_CB_B3 : Statement .noEntry_CB_B3 := rfl
theorem noEntry_CB_B4 : Statement .noEntry_CB_B4 := rfl
theorem noEntry_CB_B5 : Statement .noEntry_CB_B5 := rfl
theorem noEntry_CB_B6 : Statement .noEntry_CB_B6 := rfl
theorem noEntry_CB_B7 : Statement .noEntry_CB_B7 := rfl
theorem noEntry_CB_B8 : Statement .noEntry_CB_B8 := rfl
theorem noEntry_CB_B9 : Statement .noEntry_CB_B9 := rfl
theorem noEntry_CB_BA : Statement .noEntry_CB_BA := rfl
theorem noEntry_CB_BB : Statement .noEntry_CB_BB := rfl
theorem noEntry_CB_BC : Statement .noEntry_CB_BC := rfl
theorem noEntry_CB_BD : Statement .noEntry_CB_BD := rfl
theorem noEntry_CB_BE : Statement .noEntry_CB_BE := rfl
theorem noEntry_CB_BF : Statement .noEntry_CB_BF := rfl
theorem noEntry_CB_C0 : Statement .noEntry_CB_C0 := rfl
theorem noEntry_CB_C1 : Statement .noEntry_CB_C1 := rfl
theorem noEntry_CB_C2 : Statement .noEntry_CB_C2 := rfl
theorem noEntry_CB_C3 : Statement .noEntry_CB_C3 := rfl
theorem noEntry_CB_C4 : Statement .noEntry_CB_C4 := rfl
theorem noEntry_CB_C5 : Statement .noEntry_CB_C5 := rfl
theorem noEntry_CB_C6 : Statement .noEntry_CB_C6 := rfl
theorem noEntry_CB_C7 : Statement .noEntry_CB_C7 := rfl
theorem noEntry_CB_C8 : Statement .noEntry_CB_C8 := rfl
theorem noEntry_CB_C9 : Statement .noEntry_CB_C9 := rfl
theorem noEntry_CB_CA : Statement .noEntry_CB_CA := rfl
theorem noEntry_CB_CB : Statement .noEntry_CB_CB := rfl
theorem noEntry_CB_CC : Statement .noEntry_CB_CC := rfl
theorem noEntry_CB_CD : Statement .noEntry_CB_CD := rfl
theorem noEntry_CB_CE : Statement .noEntry_CB_CE := rfl
theorem noEntry_CB_CF : Statement .noEntry_CB_CF := rfl
theorem noEntry_CB_D0 : Statement .noEntry_CB_D0 := rfl
theorem noEntry_CB_D1 : Statement .noEntry_CB_D1 := rfl
theorem noEntry_CB_D2 : Statement .noEntry_CB_D2 := rfl
theorem noEntry_CB_D3 : Statement .noEntry_CB_D3 := rfl
theorem noEntry_CB_D4 : Statement .noEntry_CB_D4 := rfl
theorem noEntry_CB_D5 : Statement .noEntry_CB_D5 := rfl
theorem noEntry_CB_D6 : Statement .noEntry_CB_D6 := rfl
theorem noEntry_CB_D7 : Statement .noEntry_CB_D7 := rfl
theorem noEntry_CB_D8 : Statement .noEntry_CB_D8 := rfl
theorem noEntry_CB_D9 : Statement .noEntry_CB_D9 := rfl
theorem noEntry_CB_DA : Statement .noEntry_CB_DA := rfl
theorem noEntry_CB_DB : Statement .noEntry_CB_DB := rfl
theorem noEntry_CB_DC : Statement .noEntry_CB_DC := rfl
theorem noEntry_CB_DD : Statement .noEntry_CB_DD := rfl
theorem noEntry_CB_DE : Statement .noEntry_CB_DE := rfl
theorem noEntry_CB_DF : Statement .noEntry_CB_DF := rfl
theorem noEntry_CB_E0 : Statement .noEntry_CB_E0 := rfl
theorem noEntry_CB_E1 : Statement .noEntry_CB_E1 := rfl
theorem noEntry_CB_E2 : Statement .noEntry_CB_E2 := rfl
theorem noEntry_CB_E3 : Statement .noEntry_CB_E3 := rfl
theorem noEntry_CB_E4 : Statement .noEntry_CB_E4 := rfl
theorem noEntry_CB_E5 : Statement .noEntry_CB_E5 := rfl
theorem noEntry_CB_E6 : Statement .noEntry_CB_E6 := rfl
theorem noEntry_CB_E7 : Statement .noEntry_CB_E7 := rfl
theorem noEntry_CB_E8 : Statement .noEntry_CB_E8 := rfl
theorem noEntry_CB_E9 : Statement .noEntry_CB_E9 := rfl
theorem noEntry_CB_EA : Statement .noEntry_CB_EA := rfl
theorem noEntry_CB_EB : Statement .noEntry_CB_EB := rfl
theorem noEntry_CB_EC : Statement .noEntry_CB_EC := rfl
theorem noEntry_CB_ED : Statement .noEntry_CB_ED := rfl
theorem noEntry_CB_EE : Statement .noEntry_CB_EE := rfl
theorem noEntry_CB_EF : Statement .noEntry_CB_EF := rfl
theorem noEntry_CB_F0 : Statement .noEntry_CB_F0 := rfl
theorem noEntry_CB_F1 : Statement .noEntry_CB_F1 := rfl
theorem noEntry_CB_F2 : Statement .noEntry_CB_F2 := rfl
theorem noEntry_CB_F3 : Statement .noEntry_CB_F3 := rfl
theorem noEntry_CB_F4 : Statement .noEntry_CB_F4 := rfl
theorem noEntry_CB_F5 : Statement .noEntry_CB_F5 := rfl
theorem noEntry_CB_F6 : Statement .noEntry_CB_F6 := rfl
theorem noEntry_CB_F7 : Statement .noEntry_CB_F7 := rfl
theorem noEntry_CB_F8 : Statement .noEntry_CB_F8 := rfl
theorem noEntry_CB_F9 : Statement .noEntry_CB_F9 := rfl
theorem noEntry_CB_FA : Statement .noEntry_CB_FA := rfl
theorem noEntry_CB_FB : Statement .noEntry_CB_FB := rfl
theorem noEntry_CB_FC : Statement .noEntry_CB_FC := rfl
theorem noEntry_CB_FD : Statement .noEntry_CB_FD := rfl
theorem noEntry_CB_FE : Statement .noEntry_CB_FE := rfl
theorem noEntry_CB_FF : Statement .noEntry_CB_FF := rfl

end Sys2Proof.Laws.EncodedLength
end

