-- ==== Sys2Proof/Tests/Slice0.lean ====
section
/-! SUPPORT. Tests. Every expected value comes from the spec: words from the patterns of R91 and R93
(30_encoding.md), results from the vectors of 95_test_vectors.md, whose id each test's name carries. After them,
for each obligation with hypotheses, a concrete state and operands that meet them. -/

namespace Sys2Proof.Tests

open Sys2Proof Sys2Proof.Machine

/-! ## WellFormed refuses what is no instruction (R97, R202) -/

theorem test_wellFormed_refuses_no_entry :
    Instr.noEntry_00.wellFormed = false ∧ Instr.noEntry_D3.wellFormed = false := by
  decide

theorem test_wellFormed_refuses_no_entry_prefixed :
    Instr.noEntry_CB_20.wellFormed = false ∧ Instr.noEntry_CB_FF.wellFormed = false := by decide

theorem test_wellFormed_refuses_bare_prefix : (Instr.prefixCB 0x00#8).wellFormed = false := by decide

theorem test_wellFormed_accepts : Instr.inc_B.wellFormed = true ∧ Instr.bit_7_H.wellFormed = true := by decide

/-! ## Decoding: every row of the table, sixteen to a theorem, by its byte (R91, R93, R96) -/

theorem test_decode_base_row_0 :
    [0x00, 0x01, 0x02, 0x03, 0x04, 0x05, 0x06, 0x07, 0x08, 0x09, 0x0A, 0x0B, 0x0C, 0x0D, 0x0E, 0x0F].map
      (decodeTableWord 8) =
      [.noEntry_00, .ld_BC_d16 0, .ld_mBC_A, .inc_BC, .inc_B, .dec_B, .ld_B_d8 0, .noEntry_07, .noEntry_08,
        .noEntry_09, .ld_A_mBC, .dec_BC, .inc_C, .dec_C, .ld_C_d8 0, .noEntry_0F].map some := by decide

theorem test_decode_base_row_1 :
    [0x10, 0x11, 0x12, 0x13, 0x14, 0x15, 0x16, 0x17, 0x18, 0x19, 0x1A, 0x1B, 0x1C, 0x1D, 0x1E, 0x1F].map
      (decodeTableWord 8) =
      [.noEntry_10, .ld_DE_d16 0, .ld_mDE_A, .inc_DE, .inc_D, .dec_D, .ld_D_d8 0, .rla, .jr_i8 0, .noEntry_19,
        .ld_A_mDE, .dec_DE, .inc_E, .dec_E, .ld_E_d8 0, .rra].map some := by decide

theorem test_decode_base_row_2 :
    [0x20, 0x21, 0x22, 0x23, 0x24, 0x25, 0x26, 0x27, 0x28, 0x29, 0x2A, 0x2B, 0x2C, 0x2D, 0x2E, 0x2F].map
      (decodeTableWord 8) =
      [.jr_NZ_i8 0, .ld_HL_d16 0, .noEntry_22, .inc_HL, .inc_H, .dec_H, .ld_H_d8 0, .noEntry_27, .jr_Z_i8 0,
        .noEntry_29, .noEntry_2A, .dec_HL, .inc_L, .dec_L, .ld_L_d8 0, .noEntry_2F].map some := by decide

theorem test_decode_base_row_3 :
    [0x30, 0x31, 0x32, 0x33, 0x34, 0x35, 0x36, 0x37, 0x38, 0x39, 0x3A, 0x3B, 0x3C, 0x3D, 0x3E, 0x3F].map
      (decodeTableWord 8) =
      [.jr_NC_i8 0, .ld_SP_d16 0, .noEntry_32, .inc_SP, .noEntry_34, .noEntry_35, .noEntry_36, .noEntry_37,
        .jr_C_i8 0, .noEntry_39, .noEntry_3A, .dec_SP, .inc_A, .dec_A, .ld_A_d8 0, .noEntry_3F].map some := by decide

theorem test_decode_base_row_4 :
    [0x40, 0x41, 0x42, 0x43, 0x44, 0x45, 0x46, 0x47, 0x48, 0x49, 0x4A, 0x4B, 0x4C, 0x4D, 0x4E, 0x4F].map
      (decodeTableWord 8) =
      [.ld_B_B, .ld_B_C, .ld_B_D, .ld_B_E, .ld_B_H, .ld_B_L, .ld_B_mHL, .ld_B_A, .ld_C_B, .ld_C_C, .ld_C_D,
        .ld_C_E, .ld_C_H, .ld_C_L, .ld_C_mHL, .ld_C_A].map some := by decide

theorem test_decode_base_row_5 :
    [0x50, 0x51, 0x52, 0x53, 0x54, 0x55, 0x56, 0x57, 0x58, 0x59, 0x5A, 0x5B, 0x5C, 0x5D, 0x5E, 0x5F].map
      (decodeTableWord 8) =
      [.ld_D_B, .ld_D_C, .ld_D_D, .ld_D_E, .ld_D_H, .ld_D_L, .ld_D_mHL, .ld_D_A, .ld_E_B, .ld_E_C, .ld_E_D,
        .ld_E_E, .ld_E_H, .ld_E_L, .ld_E_mHL, .ld_E_A].map some := by decide

theorem test_decode_base_row_6 :
    [0x60, 0x61, 0x62, 0x63, 0x64, 0x65, 0x66, 0x67, 0x68, 0x69, 0x6A, 0x6B, 0x6C, 0x6D, 0x6E, 0x6F].map
      (decodeTableWord 8) =
      [.ld_H_B, .ld_H_C, .ld_H_D, .ld_H_E, .ld_H_H, .ld_H_L, .ld_H_mHL, .ld_H_A, .ld_L_B, .ld_L_C, .ld_L_D,
        .ld_L_E, .ld_L_H, .ld_L_L, .ld_L_mHL, .ld_L_A].map some := by decide

theorem test_decode_base_row_7 :
    [0x70, 0x71, 0x72, 0x73, 0x74, 0x75, 0x76, 0x77, 0x78, 0x79, 0x7A, 0x7B, 0x7C, 0x7D, 0x7E, 0x7F].map
      (decodeTableWord 8) =
      [.ld_mHL_B, .ld_mHL_C, .ld_mHL_D, .ld_mHL_E, .ld_mHL_H, .ld_mHL_L, .noEntry_76, .ld_mHL_A, .ld_A_B,
        .ld_A_C, .ld_A_D, .ld_A_E, .ld_A_H, .ld_A_L, .ld_A_mHL, .ld_A_A].map some := by decide

theorem test_decode_base_row_8 :
    [0x80, 0x81, 0x82, 0x83, 0x84, 0x85, 0x86, 0x87, 0x88, 0x89, 0x8A, 0x8B, 0x8C, 0x8D, 0x8E, 0x8F].map
      (decodeTableWord 8) =
      [.add_A_B, .add_A_C, .add_A_D, .add_A_E, .add_A_H, .add_A_L, .add_A_mHL, .add_A_A, .noEntry_88,
        .noEntry_89, .noEntry_8A, .noEntry_8B, .noEntry_8C, .noEntry_8D, .noEntry_8E, .noEntry_8F].map some := by decide

theorem test_decode_base_row_9 :
    [0x90, 0x91, 0x92, 0x93, 0x94, 0x95, 0x96, 0x97, 0x98, 0x99, 0x9A, 0x9B, 0x9C, 0x9D, 0x9E, 0x9F].map
      (decodeTableWord 8) =
      [.sub_B, .sub_C, .sub_D, .sub_E, .sub_H, .sub_L, .sub_mHL, .sub_A, .noEntry_98, .noEntry_99, .noEntry_9A,
        .noEntry_9B, .noEntry_9C, .noEntry_9D, .noEntry_9E, .noEntry_9F].map some := by decide

theorem test_decode_base_row_A :
    [0xA0, 0xA1, 0xA2, 0xA3, 0xA4, 0xA5, 0xA6, 0xA7, 0xA8, 0xA9, 0xAA, 0xAB, 0xAC, 0xAD, 0xAE, 0xAF].map
      (decodeTableWord 8) =
      [.noEntry_A0, .noEntry_A1, .noEntry_A2, .noEntry_A3, .noEntry_A4, .noEntry_A5, .noEntry_A6, .noEntry_A7,
        .noEntry_A8, .noEntry_A9, .noEntry_AA, .noEntry_AB, .noEntry_AC, .noEntry_AD, .noEntry_AE, .noEntry_AF].map some := by decide

theorem test_decode_base_row_B :
    [0xB0, 0xB1, 0xB2, 0xB3, 0xB4, 0xB5, 0xB6, 0xB7, 0xB8, 0xB9, 0xBA, 0xBB, 0xBC, 0xBD, 0xBE, 0xBF].map
      (decodeTableWord 8) =
      [.noEntry_B0, .noEntry_B1, .noEntry_B2, .noEntry_B3, .noEntry_B4, .noEntry_B5, .noEntry_B6, .noEntry_B7,
        .cp_B, .cp_C, .cp_D, .cp_E, .cp_H, .cp_L, .cp_mHL, .cp_A].map some := by decide

theorem test_decode_base_row_C :
    [0xC0, 0xC1, 0xC2, 0xC3, 0xC4, 0xC5, 0xC6, 0xC7, 0xC8, 0xC9, 0xCA, 0xCB, 0xCC, 0xCD, 0xCE, 0xCF].map
      (decodeTableWord 8) =
      [.noEntry_C0, .pop_BC, .noEntry_C2, .noEntry_C3, .noEntry_C4, .push_BC, .add_A_d8 0, .noEntry_C7,
        .noEntry_C8, .ret, .noEntry_CA, .prefixCB 0, .noEntry_CC, .call_u16 0, .noEntry_CE, .noEntry_CF].map some := by decide

theorem test_decode_base_row_D :
    [0xD0, 0xD1, 0xD2, 0xD3, 0xD4, 0xD5, 0xD6, 0xD7, 0xD8, 0xD9, 0xDA, 0xDB, 0xDC, 0xDD, 0xDE, 0xDF].map
      (decodeTableWord 8) =
      [.noEntry_D0, .pop_DE, .noEntry_D2, .noEntry_D3, .noEntry_D4, .push_DE, .sub_d8 0, .noEntry_D7,
        .noEntry_D8, .reti, .noEntry_DA, .noEntry_DB, .noEntry_DC, .noEntry_DD, .noEntry_DE, .noEntry_DF].map some := by decide

theorem test_decode_base_row_E :
    [0xE0, 0xE1, 0xE2, 0xE3, 0xE4, 0xE5, 0xE6, 0xE7, 0xE8, 0xE9, 0xEA, 0xEB, 0xEC, 0xED, 0xEE, 0xEF].map
      (decodeTableWord 8) =
      [.ldh_mA8_A 0, .pop_HL, .ld_mC_A, .noEntry_E3, .noEntry_E4, .push_HL, .noEntry_E6, .noEntry_E7,
        .noEntry_E8, .noEntry_E9, .ld_mA16_A 0, .noEntry_EB, .noEntry_EC, .noEntry_ED, .noEntry_EE, .noEntry_EF].map some := by decide

theorem test_decode_base_row_F :
    [0xF0, 0xF1, 0xF2, 0xF3, 0xF4, 0xF5, 0xF6, 0xF7, 0xF8, 0xF9, 0xFA, 0xFB, 0xFC, 0xFD, 0xFE, 0xFF].map
      (decodeTableWord 8) =
      [.ldh_A_mA8 0, .pop_AF, .ld_A_mC, .di, .noEntry_F4, .push_AF, .noEntry_F6, .noEntry_F7, .noEntry_F8,
        .noEntry_F9, .ld_A_mA16 0, .ei, .noEntry_FC, .noEntry_FD, .cp_d8 0, .noEntry_FF].map some := by decide

theorem test_decode_prefixed_row_0 :
    [0xCB00, 0xCB01, 0xCB02, 0xCB03, 0xCB04, 0xCB05, 0xCB06, 0xCB07, 0xCB08, 0xCB09, 0xCB0A, 0xCB0B, 0xCB0C,
      0xCB0D, 0xCB0E, 0xCB0F].map
      (decodeTableWord 16) =
      [.rlc_B, .rlc_C, .rlc_D, .rlc_E, .rlc_H, .rlc_L, .rlc_mHL, .rlc_A, .rrc_B, .rrc_C, .rrc_D, .rrc_E,
        .rrc_H, .rrc_L, .rrc_mHL, .rrc_A].map some := by decide

theorem test_decode_prefixed_row_1 :
    [0xCB10, 0xCB11, 0xCB12, 0xCB13, 0xCB14, 0xCB15, 0xCB16, 0xCB17, 0xCB18, 0xCB19, 0xCB1A, 0xCB1B, 0xCB1C,
      0xCB1D, 0xCB1E, 0xCB1F].map
      (decodeTableWord 16) =
      [.rl_B, .rl_C, .rl_D, .rl_E, .rl_H, .rl_L, .rl_mHL, .rl_A, .rr_B, .rr_C, .rr_D, .rr_E, .rr_H, .rr_L,
        .rr_mHL, .rr_A].map some := by decide

theorem test_decode_prefixed_row_2 :
    [0xCB20, 0xCB21, 0xCB22, 0xCB23, 0xCB24, 0xCB25, 0xCB26, 0xCB27, 0xCB28, 0xCB29, 0xCB2A, 0xCB2B, 0xCB2C,
      0xCB2D, 0xCB2E, 0xCB2F].map
      (decodeTableWord 16) =
      [.noEntry_CB_20, .noEntry_CB_21, .noEntry_CB_22, .noEntry_CB_23, .noEntry_CB_24, .noEntry_CB_25,
        .noEntry_CB_26, .noEntry_CB_27, .noEntry_CB_28, .noEntry_CB_29, .noEntry_CB_2A, .noEntry_CB_2B,
        .noEntry_CB_2C, .noEntry_CB_2D, .noEntry_CB_2E, .noEntry_CB_2F].map some := by decide

theorem test_decode_prefixed_row_3 :
    [0xCB30, 0xCB31, 0xCB32, 0xCB33, 0xCB34, 0xCB35, 0xCB36, 0xCB37, 0xCB38, 0xCB39, 0xCB3A, 0xCB3B, 0xCB3C,
      0xCB3D, 0xCB3E, 0xCB3F].map
      (decodeTableWord 16) =
      [.noEntry_CB_30, .noEntry_CB_31, .noEntry_CB_32, .noEntry_CB_33, .noEntry_CB_34, .noEntry_CB_35,
        .noEntry_CB_36, .noEntry_CB_37, .noEntry_CB_38, .noEntry_CB_39, .noEntry_CB_3A, .noEntry_CB_3B,
        .noEntry_CB_3C, .noEntry_CB_3D, .noEntry_CB_3E, .noEntry_CB_3F].map some := by decide

theorem test_decode_prefixed_row_4 :
    [0xCB40, 0xCB41, 0xCB42, 0xCB43, 0xCB44, 0xCB45, 0xCB46, 0xCB47, 0xCB48, 0xCB49, 0xCB4A, 0xCB4B, 0xCB4C,
      0xCB4D, 0xCB4E, 0xCB4F].map
      (decodeTableWord 16) =
      [.bit_0_B, .bit_0_C, .bit_0_D, .bit_0_E, .bit_0_H, .bit_0_L, .bit_0_mHL, .bit_0_A, .bit_1_B, .bit_1_C,
        .bit_1_D, .bit_1_E, .bit_1_H, .bit_1_L, .bit_1_mHL, .bit_1_A].map some := by decide

theorem test_decode_prefixed_row_5 :
    [0xCB50, 0xCB51, 0xCB52, 0xCB53, 0xCB54, 0xCB55, 0xCB56, 0xCB57, 0xCB58, 0xCB59, 0xCB5A, 0xCB5B, 0xCB5C,
      0xCB5D, 0xCB5E, 0xCB5F].map
      (decodeTableWord 16) =
      [.bit_2_B, .bit_2_C, .bit_2_D, .bit_2_E, .bit_2_H, .bit_2_L, .bit_2_mHL, .bit_2_A, .bit_3_B, .bit_3_C,
        .bit_3_D, .bit_3_E, .bit_3_H, .bit_3_L, .bit_3_mHL, .bit_3_A].map some := by decide

theorem test_decode_prefixed_row_6 :
    [0xCB60, 0xCB61, 0xCB62, 0xCB63, 0xCB64, 0xCB65, 0xCB66, 0xCB67, 0xCB68, 0xCB69, 0xCB6A, 0xCB6B, 0xCB6C,
      0xCB6D, 0xCB6E, 0xCB6F].map
      (decodeTableWord 16) =
      [.bit_4_B, .bit_4_C, .bit_4_D, .bit_4_E, .bit_4_H, .bit_4_L, .bit_4_mHL, .bit_4_A, .bit_5_B, .bit_5_C,
        .bit_5_D, .bit_5_E, .bit_5_H, .bit_5_L, .bit_5_mHL, .bit_5_A].map some := by decide

theorem test_decode_prefixed_row_7 :
    [0xCB70, 0xCB71, 0xCB72, 0xCB73, 0xCB74, 0xCB75, 0xCB76, 0xCB77, 0xCB78, 0xCB79, 0xCB7A, 0xCB7B, 0xCB7C,
      0xCB7D, 0xCB7E, 0xCB7F].map
      (decodeTableWord 16) =
      [.bit_6_B, .bit_6_C, .bit_6_D, .bit_6_E, .bit_6_H, .bit_6_L, .bit_6_mHL, .bit_6_A, .bit_7_B, .bit_7_C,
        .bit_7_D, .bit_7_E, .bit_7_H, .bit_7_L, .bit_7_mHL, .bit_7_A].map some := by decide

theorem test_decode_prefixed_row_8 :
    [0xCB80, 0xCB81, 0xCB82, 0xCB83, 0xCB84, 0xCB85, 0xCB86, 0xCB87, 0xCB88, 0xCB89, 0xCB8A, 0xCB8B, 0xCB8C,
      0xCB8D, 0xCB8E, 0xCB8F].map
      (decodeTableWord 16) =
      [.noEntry_CB_80, .noEntry_CB_81, .noEntry_CB_82, .noEntry_CB_83, .noEntry_CB_84, .noEntry_CB_85,
        .noEntry_CB_86, .noEntry_CB_87, .noEntry_CB_88, .noEntry_CB_89, .noEntry_CB_8A, .noEntry_CB_8B,
        .noEntry_CB_8C, .noEntry_CB_8D, .noEntry_CB_8E, .noEntry_CB_8F].map some := by decide

theorem test_decode_prefixed_row_9 :
    [0xCB90, 0xCB91, 0xCB92, 0xCB93, 0xCB94, 0xCB95, 0xCB96, 0xCB97, 0xCB98, 0xCB99, 0xCB9A, 0xCB9B, 0xCB9C,
      0xCB9D, 0xCB9E, 0xCB9F].map
      (decodeTableWord 16) =
      [.noEntry_CB_90, .noEntry_CB_91, .noEntry_CB_92, .noEntry_CB_93, .noEntry_CB_94, .noEntry_CB_95,
        .noEntry_CB_96, .noEntry_CB_97, .noEntry_CB_98, .noEntry_CB_99, .noEntry_CB_9A, .noEntry_CB_9B,
        .noEntry_CB_9C, .noEntry_CB_9D, .noEntry_CB_9E, .noEntry_CB_9F].map some := by decide

theorem test_decode_prefixed_row_A :
    [0xCBA0, 0xCBA1, 0xCBA2, 0xCBA3, 0xCBA4, 0xCBA5, 0xCBA6, 0xCBA7, 0xCBA8, 0xCBA9, 0xCBAA, 0xCBAB, 0xCBAC,
      0xCBAD, 0xCBAE, 0xCBAF].map
      (decodeTableWord 16) =
      [.noEntry_CB_A0, .noEntry_CB_A1, .noEntry_CB_A2, .noEntry_CB_A3, .noEntry_CB_A4, .noEntry_CB_A5,
        .noEntry_CB_A6, .noEntry_CB_A7, .noEntry_CB_A8, .noEntry_CB_A9, .noEntry_CB_AA, .noEntry_CB_AB,
        .noEntry_CB_AC, .noEntry_CB_AD, .noEntry_CB_AE, .noEntry_CB_AF].map some := by decide

theorem test_decode_prefixed_row_B :
    [0xCBB0, 0xCBB1, 0xCBB2, 0xCBB3, 0xCBB4, 0xCBB5, 0xCBB6, 0xCBB7, 0xCBB8, 0xCBB9, 0xCBBA, 0xCBBB, 0xCBBC,
      0xCBBD, 0xCBBE, 0xCBBF].map
      (decodeTableWord 16) =
      [.noEntry_CB_B0, .noEntry_CB_B1, .noEntry_CB_B2, .noEntry_CB_B3, .noEntry_CB_B4, .noEntry_CB_B5,
        .noEntry_CB_B6, .noEntry_CB_B7, .noEntry_CB_B8, .noEntry_CB_B9, .noEntry_CB_BA, .noEntry_CB_BB,
        .noEntry_CB_BC, .noEntry_CB_BD, .noEntry_CB_BE, .noEntry_CB_BF].map some := by decide

theorem test_decode_prefixed_row_C :
    [0xCBC0, 0xCBC1, 0xCBC2, 0xCBC3, 0xCBC4, 0xCBC5, 0xCBC6, 0xCBC7, 0xCBC8, 0xCBC9, 0xCBCA, 0xCBCB, 0xCBCC,
      0xCBCD, 0xCBCE, 0xCBCF].map
      (decodeTableWord 16) =
      [.noEntry_CB_C0, .noEntry_CB_C1, .noEntry_CB_C2, .noEntry_CB_C3, .noEntry_CB_C4, .noEntry_CB_C5,
        .noEntry_CB_C6, .noEntry_CB_C7, .noEntry_CB_C8, .noEntry_CB_C9, .noEntry_CB_CA, .noEntry_CB_CB,
        .noEntry_CB_CC, .noEntry_CB_CD, .noEntry_CB_CE, .noEntry_CB_CF].map some := by decide

theorem test_decode_prefixed_row_D :
    [0xCBD0, 0xCBD1, 0xCBD2, 0xCBD3, 0xCBD4, 0xCBD5, 0xCBD6, 0xCBD7, 0xCBD8, 0xCBD9, 0xCBDA, 0xCBDB, 0xCBDC,
      0xCBDD, 0xCBDE, 0xCBDF].map
      (decodeTableWord 16) =
      [.noEntry_CB_D0, .noEntry_CB_D1, .noEntry_CB_D2, .noEntry_CB_D3, .noEntry_CB_D4, .noEntry_CB_D5,
        .noEntry_CB_D6, .noEntry_CB_D7, .noEntry_CB_D8, .noEntry_CB_D9, .noEntry_CB_DA, .noEntry_CB_DB,
        .noEntry_CB_DC, .noEntry_CB_DD, .noEntry_CB_DE, .noEntry_CB_DF].map some := by decide

theorem test_decode_prefixed_row_E :
    [0xCBE0, 0xCBE1, 0xCBE2, 0xCBE3, 0xCBE4, 0xCBE5, 0xCBE6, 0xCBE7, 0xCBE8, 0xCBE9, 0xCBEA, 0xCBEB, 0xCBEC,
      0xCBED, 0xCBEE, 0xCBEF].map
      (decodeTableWord 16) =
      [.noEntry_CB_E0, .noEntry_CB_E1, .noEntry_CB_E2, .noEntry_CB_E3, .noEntry_CB_E4, .noEntry_CB_E5,
        .noEntry_CB_E6, .noEntry_CB_E7, .noEntry_CB_E8, .noEntry_CB_E9, .noEntry_CB_EA, .noEntry_CB_EB,
        .noEntry_CB_EC, .noEntry_CB_ED, .noEntry_CB_EE, .noEntry_CB_EF].map some := by decide

theorem test_decode_prefixed_row_F :
    [0xCBF0, 0xCBF1, 0xCBF2, 0xCBF3, 0xCBF4, 0xCBF5, 0xCBF6, 0xCBF7, 0xCBF8, 0xCBF9, 0xCBFA, 0xCBFB, 0xCBFC,
      0xCBFD, 0xCBFE, 0xCBFF].map
      (decodeTableWord 16) =
      [.noEntry_CB_F0, .noEntry_CB_F1, .noEntry_CB_F2, .noEntry_CB_F3, .noEntry_CB_F4, .noEntry_CB_F5,
        .noEntry_CB_F6, .noEntry_CB_F7, .noEntry_CB_F8, .noEntry_CB_F9, .noEntry_CB_FA, .noEntry_CB_FB,
        .noEntry_CB_FC, .noEntry_CB_FD, .noEntry_CB_FE, .noEntry_CB_FF].map some := by decide

/-- One word of each family written out bit by bit from its pattern in R91, with operand bytes (R95). -/
theorem test_words_bit_by_bit :
    decode [0b01_100_101#8] = .ok .ld_H_L [] ∧
    decode [0b01_100_110#8] = .ok .ld_H_mHL [] ∧
    decode [0b01_110_101#8] = .ok .ld_mHL_L [] ∧
    decode [0b00_011_110#8, 0x9A#8] = .ok (.ld_E_d8 0x9A#8) [] ∧
    decode [0b00_11_0001#8, 0xFE#8, 0xFF#8] = .ok (.ld_SP_d16 0xFFFE#16) [] ∧
    decode [0b00_001_100#8] = .ok .inc_C [] ∧
    decode [0b00_10_1011#8] = .ok .dec_HL [] ∧
    decode [0b10_111_001#8] = .ok .cp_C [] ∧
    decode [0b11_010_110#8, 0x0F#8] = .ok (.sub_d8 0x0F#8) [] ∧
    decode [0b00_01_1111#8] = .ok .rra [] ∧
    decode [0xCB#8, 0b000_11_011#8] = .ok .rr_E [] ∧
    decode [0xCB#8, 0b01_011_110#8] = .ok .bit_3_mHL [] ∧
    decode [0b001_10_000#8, 0x02#8] = .ok (.jr_NC_i8 0x02#8) [] ∧
    decode [0b11_01_0101#8] = .ok .push_DE [] ∧
    decode [0b1110_1010#8, 0x03#8, 0x01#8] = .ok (.ld_mA16_A 0x0103#16) [] ∧
    decode [0b1110_0010#8] = .ok .ld_mC_A [] ∧
    decode [0b1101_1001#8] = .ok .reti [] := by decide

theorem test_decode_rejects_short_bytes :
    decode [] = .rejected .empty ∧ decode [0x21#8, 0x34#8] = .rejected (.truncated 0x21#8) ∧
      decode [0xCB#8] = .rejected (.truncated 0xCB#8) := by decide

/-! ## One step, from the vectors -/

/-- The start state of the vectors. -/
def start : State := { State.reset with pc := 0x0100#16 }

/-- Bytes laid at PC. -/
def atPc (bytes : List Byte) (s : State) : State := { s with mem := s.mem.writeBytes s.pc bytes }

/-- Bytes laid at PC, one step, a check of the state after it. -/
def after (bytes : List Byte) (s : State) (p : State → Bool) : Bool :=
  match step (atPc bytes s) with
  | .next t => p t
  | .fault _ => false
  | .refused _ => false

/-- The same, for a step that faults. -/
def faults (bytes : List Byte) (s : State) : Option Fault :=
  match step (atPc bytes s) with
  | .next _ => none
  | .fault r => some r
  | .refused _ => none

theorem test_S2a : after [0x04#8]
    { start with b := 0x0F#8 } (fun t =>
      t.f == 0x20#8 && t.b == 0x10#8 && t.pc == 0x0101#16 && t.tcycles == 4) = true := by decide

theorem test_S3a : after [0x05#8]
    { start with b := 0x10#8 } (fun t =>
      t.f == 0x60#8 && t.b == 0x0F#8 && t.pc == 0x0101#16 && t.tcycles == 4) = true := by decide

theorem test_S3b : after [0x05#8]
    { start with b := 0x01#8 } (fun t =>
      t.f == 0xC0#8 && t.b == 0x00#8 && t.pc == 0x0101#16 && t.tcycles == 4) = true := by decide

theorem test_S4a : after [0x80#8]
    { start with a := 0x0F#8, b := 0x01#8 } (fun t =>
      t.a == 0x10#8 && t.f == 0x20#8 && t.pc == 0x0101#16 && t.tcycles == 4) = true := by decide

theorem test_S4b : after [0x80#8]
    { start with a := 0xFF#8, b := 0x01#8 } (fun t =>
      t.a == 0x00#8 && t.f == 0xB0#8 && t.pc == 0x0101#16 && t.tcycles == 4) = true := by decide

theorem test_S5 : after [0x21#8, 0x34#8, 0x12#8]
    start (fun t =>
      t.h == 0x12#8 && t.l == 0x34#8 && t.f == 0x00#8 && t.pc == 0x0103#16 && t.tcycles == 12) = true := by decide

theorem test_S9a : after [0xCB#8, 0x7C#8]
    { start with h := 0x00#8 } (fun t =>
      t.f == 0xA0#8 && t.pc == 0x0102#16 && t.tcycles == 8) = true := by decide

theorem test_S9b : after [0xCB#8, 0x7C#8]
    { start with h := 0x80#8 } (fun t =>
      t.f == 0x20#8 && t.pc == 0x0102#16 && t.tcycles == 8) = true := by decide

theorem test_S10 : after [0x04#8]
    { start with sp := 0xD000#16, ime := true, mem := [(0xFF0F, 0x03#8), (0xFFFF, 0x03#8)] } (fun t =>
      t.b == 0x01#8 && t.f == 0x00#8 && t.pc == 0x0040#16 && t.sp == 0xCFFE#16 && !t.ime &&
      t.mem.read 0xCFFE#16 == 0x01#8 && t.mem.read 0xCFFF#16 == 0x01#8 && t.mem.read 0xFF0F#16 == 0x02#8 &&
      t.tcycles == 24) = true := by decide

theorem test_S12a : faults [0xD3#8]
    { start with a := 0x12#8, f := 0x50#8, b := 0x34#8, sp := 0xD000#16, ime := true, acc := 200#8, mem := [(0xFF0F, 0x01#8), (0xFFFF, 0x01#8)] } =
      some (.unimplementedOpcode false 0xD3#8) := by decide

theorem test_S12b : faults [0xCB#8, 0x30#8]
    { start with a := 0x12#8, sp := 0xD000#16, acc := 254#8 } =
      some (.unimplementedOpcode true 0x30#8) := by decide

theorem test_V1 : after [0x06#8, 0x42#8]
    start (fun t =>
      t.b == 0x42#8 && t.f == 0x00#8 && t.pc == 0x0102#16 && t.tcycles == 8) = true := by decide

theorem test_V2 : after [0x3E#8, 0xFF#8]
    { start with f := 0xF0#8 } (fun t =>
      t.a == 0xFF#8 && t.f == 0xF0#8 && t.pc == 0x0102#16 && t.tcycles == 8) = true := by decide

theorem test_V3 : after [0x40#8]
    { start with b := 0x12#8 } (fun t =>
      t.f == 0x00#8 && t.pc == 0x0101#16 && t.tcycles == 4) = true := by decide

theorem test_V4 : after [0x65#8]
    { start with h := 0x12#8, l := 0x34#8 } (fun t =>
      t.h == 0x34#8 && t.f == 0x00#8 && t.pc == 0x0101#16 && t.tcycles == 4) = true := by decide

theorem test_V5 : after [0x7E#8]
    { start with h := 0xC0#8, l := 0x10#8, mem := [(0xC010, 0x5A#8)] } (fun t =>
      t.a == 0x5A#8 && t.f == 0x00#8 && t.pc == 0x0101#16 && t.tcycles == 8) = true := by decide

theorem test_V6 : after [0x66#8]
    { start with h := 0xC0#8, l := 0x10#8, mem := [(0xC010, 0x80#8)] } (fun t =>
      t.h == 0x80#8 && t.f == 0x00#8 && t.pc == 0x0101#16 && t.tcycles == 8) = true := by decide

theorem test_V7 : after [0x75#8]
    { start with h := 0xC0#8, l := 0x10#8 } (fun t =>
      t.f == 0x00#8 && t.pc == 0x0101#16 && t.mem.read 0xC010#16 == 0x10#8 && t.tcycles == 8) = true := by decide

theorem test_V8 : after [0x0A#8]
    { start with b := 0xC0#8, c := 0x01#8, mem := [(0xC001, 0x77#8)] } (fun t =>
      t.a == 0x77#8 && t.f == 0x00#8 && t.pc == 0x0101#16 && t.tcycles == 8) = true := by decide

theorem test_V9 : after [0x1A#8]
    { start with d := 0x01#8, e := 0x00#8 } (fun t =>
      t.a == 0x1A#8 && t.f == 0x00#8 && t.pc == 0x0101#16 && t.tcycles == 8) = true := by decide

theorem test_V10 : after [0x02#8]
    { start with a := 0x9C#8, b := 0xC0#8, c := 0x02#8 } (fun t =>
      t.f == 0x00#8 && t.pc == 0x0101#16 && t.mem.read 0xC002#16 == 0x9C#8 && t.tcycles == 8) = true := by decide

theorem test_V11 : after [0x12#8]
    { start with a := 0x9D#8, d := 0xFF#8, e := 0xFF#8 } (fun t =>
      t.f == 0x00#8 && t.pc == 0x0101#16 && t.mem.read 0xFFFF#16 == 0x9D#8 && t.tcycles == 8) = true := by decide

theorem test_V12 : faults [0x76#8]
    start =
      some (.unimplementedOpcode false 0x76#8) := by decide

theorem test_V13 : faults [0x36#8, 0x12#8]
    start =
      some (.unimplementedOpcode false 0x36#8) := by decide

theorem test_V20 : after [0x01#8, 0x34#8, 0x12#8]
    start (fun t =>
      t.b == 0x12#8 && t.c == 0x34#8 && t.f == 0x00#8 && t.pc == 0x0103#16 && t.tcycles == 12) = true := by decide

theorem test_V21 : after [0x21#8, 0xFF#8, 0x00#8]
    start (fun t =>
      t.l == 0xFF#8 && t.f == 0x00#8 && t.pc == 0x0103#16 && t.tcycles == 12) = true := by decide

theorem test_V22 : after [0x31#8, 0xFE#8, 0xFF#8]
    start (fun t =>
      t.f == 0x00#8 && t.pc == 0x0103#16 && t.sp == 0xFFFE#16 && t.tcycles == 12) = true := by decide

theorem test_V23 : after [0x11#8, 0xCD#8, 0xAB#8]
    { start with pc := 0xFFFE#16, mem := [(0x0000, 0xAB#8)] } (fun t =>
      t.d == 0xAB#8 && t.e == 0xCD#8 && t.f == 0x00#8 && t.pc == 0x0001#16 && t.tcycles == 12) = true := by decide

theorem test_V30 : after [0x04#8]
    { start with b := 0xFF#8, f := 0x10#8 } (fun t =>
      t.f == 0xB0#8 && t.b == 0x00#8 && t.pc == 0x0101#16 && t.tcycles == 4) = true := by decide

theorem test_V31 : after [0x3C#8]
    { start with a := 0x0F#8, f := 0xC0#8 } (fun t =>
      t.a == 0x10#8 && t.f == 0x20#8 && t.pc == 0x0101#16 && t.tcycles == 4) = true := by decide

theorem test_V32 : after [0x0C#8]
    { start with c := 0x00#8, f := 0xF0#8 } (fun t =>
      t.f == 0x10#8 && t.c == 0x01#8 && t.pc == 0x0101#16 && t.tcycles == 4) = true := by decide

theorem test_V35 : after [0x3D#8]
    { start with a := 0x10#8, f := 0x00#8 } (fun t =>
      t.a == 0x0F#8 && t.f == 0x60#8 && t.pc == 0x0101#16 && t.tcycles == 4) = true := by decide

theorem test_V36 : after [0x2D#8]
    { start with l := 0x42#8, f := 0x90#8 } (fun t =>
      t.f == 0x50#8 && t.l == 0x41#8 && t.pc == 0x0101#16 && t.tcycles == 4) = true := by decide

theorem test_V37 : after [0x03#8]
    { start with b := 0x00#8, c := 0xFF#8, f := 0xF0#8 } (fun t =>
      t.f == 0xF0#8 && t.b == 0x01#8 && t.c == 0x00#8 && t.pc == 0x0101#16 && t.tcycles == 8) = true := by decide

theorem test_V38 : after [0x23#8]
    { start with h := 0xFF#8, l := 0xFF#8, f := 0x00#8 } (fun t =>
      t.f == 0x00#8 && t.h == 0x00#8 && t.l == 0x00#8 && t.pc == 0x0101#16 && t.tcycles == 8) = true := by decide

theorem test_V39 : after [0x1B#8]
    { start with d := 0x00#8, e := 0x00#8, f := 0x80#8 } (fun t =>
      t.f == 0x80#8 && t.d == 0xFF#8 && t.e == 0xFF#8 && t.pc == 0x0101#16 && t.tcycles == 8) = true := by decide

theorem test_V40 : after [0x2B#8]
    { start with h := 0x01#8, l := 0x00#8 } (fun t =>
      t.h == 0x00#8 && t.l == 0xFF#8 && t.f == 0x00#8 && t.pc == 0x0101#16 && t.tcycles == 8) = true := by decide

theorem test_V41 : after [0x33#8]
    { start with sp := 0xFFFF#16 } (fun t =>
      t.f == 0x00#8 && t.pc == 0x0101#16 && t.sp == 0x0000#16 && t.tcycles == 8) = true := by decide

theorem test_V42 : after [0x3B#8]
    { start with sp := 0x0000#16 } (fun t =>
      t.f == 0x00#8 && t.pc == 0x0101#16 && t.sp == 0xFFFF#16 && t.tcycles == 8) = true := by decide

theorem test_V43 : faults [0x34#8]
    start =
      some (.unimplementedOpcode false 0x34#8) := by decide

theorem test_V51 : after [0x87#8]
    { start with a := 0x80#8, f := 0x40#8 } (fun t =>
      t.a == 0x00#8 && t.f == 0x90#8 && t.pc == 0x0101#16 && t.tcycles == 4) = true := by decide

theorem test_V52 : after [0x81#8]
    { start with a := 0x0F#8, c := 0x01#8, f := 0xF0#8 } (fun t =>
      t.a == 0x10#8 && t.f == 0x20#8 && t.pc == 0x0101#16 && t.tcycles == 4) = true := by decide

theorem test_V53 : after [0xC6#8, 0x20#8]
    { start with a := 0xF0#8 } (fun t =>
      t.a == 0x10#8 && t.f == 0x10#8 && t.pc == 0x0102#16 && t.tcycles == 8) = true := by decide

theorem test_V54 : after [0x86#8]
    { start with a := 0x00#8, h := 0xC0#8, l := 0x00#8, mem := [] } (fun t =>
      t.f == 0x80#8 && t.pc == 0x0101#16 && t.tcycles == 8) = true := by decide

theorem test_V55 : after [0x83#8]
    { start with a := 0x3A#8, e := 0xC6#8 } (fun t =>
      t.a == 0x00#8 && t.f == 0xB0#8 && t.pc == 0x0101#16 && t.tcycles == 4) = true := by decide

theorem test_V56 : after [0x90#8]
    { start with a := 0x3E#8, b := 0x3E#8 } (fun t =>
      t.a == 0x00#8 && t.f == 0xC0#8 && t.pc == 0x0101#16 && t.tcycles == 4) = true := by decide

theorem test_V57 : after [0xD6#8, 0x0F#8]
    { start with a := 0x3E#8 } (fun t =>
      t.a == 0x2F#8 && t.f == 0x60#8 && t.pc == 0x0102#16 && t.tcycles == 8) = true := by decide

theorem test_V58 : after [0x96#8]
    { start with a := 0x3E#8, h := 0xC0#8, l := 0x00#8, mem := [(0xC000, 0x40#8)] } (fun t =>
      t.a == 0xFE#8 && t.f == 0x50#8 && t.pc == 0x0101#16 && t.tcycles == 8) = true := by decide

theorem test_V59 : after [0x97#8]
    { start with a := 0x77#8, f := 0x10#8 } (fun t =>
      t.a == 0x00#8 && t.f == 0xC0#8 && t.pc == 0x0101#16 && t.tcycles == 4) = true := by decide

theorem test_V60 : after [0x91#8]
    { start with a := 0x00#8, c := 0x01#8 } (fun t =>
      t.a == 0xFF#8 && t.f == 0x70#8 && t.pc == 0x0101#16 && t.tcycles == 4) = true := by decide

theorem test_V61 : after [0x92#8]
    { start with a := 0x10#8, d := 0x01#8 } (fun t =>
      t.a == 0x0F#8 && t.f == 0x60#8 && t.pc == 0x0101#16 && t.tcycles == 4) = true := by decide

theorem test_V62 : after [0xFE#8, 0x3C#8]
    { start with a := 0x3C#8 } (fun t =>
      t.f == 0xC0#8 && t.pc == 0x0102#16 && t.tcycles == 8) = true := by decide

theorem test_V63 : after [0xB8#8]
    { start with a := 0x3C#8, b := 0x2F#8 } (fun t =>
      t.f == 0x60#8 && t.pc == 0x0101#16 && t.tcycles == 4) = true := by decide

theorem test_V64 : after [0xBE#8]
    { start with a := 0x3C#8, h := 0xC0#8, l := 0x00#8, mem := [(0xC000, 0x40#8)] } (fun t =>
      t.f == 0x50#8 && t.pc == 0x0101#16 && t.tcycles == 8) = true := by decide

theorem test_V65 : after [0xBF#8]
    { start with a := 0x99#8, f := 0x10#8 } (fun t =>
      t.f == 0xC0#8 && t.pc == 0x0101#16 && t.tcycles == 4) = true := by decide

theorem test_V66 : faults [0x88#8]
    start =
      some (.unimplementedOpcode false 0x88#8) := by decide

theorem test_V67 : faults [0xAF#8]
    start =
      some (.unimplementedOpcode false 0xAF#8) := by decide

theorem test_V70 : after [0x17#8]
    { start with a := 0x80#8, f := 0x00#8 } (fun t =>
      t.a == 0x00#8 && t.f == 0x10#8 && t.pc == 0x0101#16 && t.tcycles == 4) = true := by decide

theorem test_V72 : after [0x17#8]
    { start with a := 0x01#8, f := 0x10#8 } (fun t =>
      t.a == 0x03#8 && t.f == 0x00#8 && t.pc == 0x0101#16 && t.tcycles == 4) = true := by decide

theorem test_V74 : after [0x1F#8]
    { start with a := 0x01#8, f := 0x00#8 } (fun t =>
      t.a == 0x00#8 && t.f == 0x10#8 && t.pc == 0x0101#16 && t.tcycles == 4) = true := by decide

theorem test_V75 : after [0x1F#8]
    { start with a := 0x80#8, f := 0x10#8 } (fun t =>
      t.a == 0xC0#8 && t.f == 0x00#8 && t.pc == 0x0101#16 && t.tcycles == 4) = true := by decide

theorem test_V76 : after [0xCB#8, 0x00#8]
    { start with b := 0x85#8, f := 0x00#8 } (fun t =>
      t.f == 0x10#8 && t.b == 0x0B#8 && t.pc == 0x0102#16 && t.tcycles == 8) = true := by decide

theorem test_V77 : after [0xCB#8, 0x07#8]
    { start with a := 0x00#8, f := 0x10#8 } (fun t =>
      t.f == 0x80#8 && t.pc == 0x0102#16 && t.tcycles == 8) = true := by decide

theorem test_V78 : after [0xCB#8, 0x06#8]
    { start with h := 0xC0#8, l := 0x00#8, mem := [(0xC000, 0x80#8)] } (fun t =>
      t.f == 0x10#8 && t.pc == 0x0102#16 && t.mem.read 0xC000#16 == 0x01#8 && t.tcycles == 16) = true := by decide

theorem test_V79 : after [0xCB#8, 0x09#8]
    { start with c := 0x01#8 } (fun t =>
      t.f == 0x10#8 && t.c == 0x80#8 && t.pc == 0x0102#16 && t.tcycles == 8) = true := by decide

theorem test_V80 : after [0xCB#8, 0x0E#8]
    { start with h := 0xC0#8, l := 0x00#8, f := 0x10#8, mem := [(0xC000, 0x02#8)] } (fun t =>
      t.f == 0x00#8 && t.pc == 0x0102#16 && t.mem.read 0xC000#16 == 0x01#8 && t.tcycles == 16) = true := by decide

theorem test_V81 : after [0xCB#8, 0x11#8]
    { start with c := 0x80#8 } (fun t =>
      t.f == 0x90#8 && t.c == 0x00#8 && t.pc == 0x0102#16 && t.tcycles == 8) = true := by decide

theorem test_V82 : after [0xCB#8, 0x12#8]
    { start with d := 0x7F#8, f := 0x10#8 } (fun t =>
      t.f == 0x00#8 && t.d == 0xFF#8 && t.pc == 0x0102#16 && t.tcycles == 8) = true := by decide

theorem test_V83 : after [0xCB#8, 0x16#8]
    { start with h := 0xC0#8, l := 0x00#8, mem := [(0xC000, 0x11#8)] } (fun t =>
      t.f == 0x00#8 && t.pc == 0x0102#16 && t.mem.read 0xC000#16 == 0x22#8 && t.tcycles == 16) = true := by decide

theorem test_V84 : after [0xCB#8, 0x1F#8]
    { start with a := 0x01#8 } (fun t =>
      t.a == 0x00#8 && t.f == 0x90#8 && t.pc == 0x0102#16 && t.tcycles == 8) = true := by decide

theorem test_V85 : after [0xCB#8, 0x1B#8]
    { start with e := 0x00#8, f := 0x10#8 } (fun t =>
      t.f == 0x00#8 && t.e == 0x80#8 && t.pc == 0x0102#16 && t.tcycles == 8) = true := by decide

theorem test_V86 : after [0xCB#8, 0x1E#8]
    { start with h := 0xC0#8, l := 0x00#8, mem := [(0xC000, 0x8A#8)] } (fun t =>
      t.f == 0x00#8 && t.pc == 0x0102#16 && t.mem.read 0xC000#16 == 0x45#8 && t.tcycles == 16) = true := by decide

theorem test_V87 : after [0xCB#8, 0x17#8]
    { start with a := 0x80#8 } (fun t =>
      t.a == 0x00#8 && t.f == 0x90#8 && t.pc == 0x0102#16 && t.tcycles == 8) = true := by decide

theorem test_V88 : faults [0xCB#8, 0x20#8]
    { start with b := 0x01#8 } =
      some (.unimplementedOpcode true 0x20#8) := by decide

theorem test_V89 : faults [0xCB#8, 0x37#8]
    start =
      some (.unimplementedOpcode true 0x37#8) := by decide

theorem test_V90 : faults [0x07#8]
    start =
      some (.unimplementedOpcode false 0x07#8) := by decide

theorem test_V102 : after [0xCB#8, 0x47#8]
    { start with a := 0x01#8, f := 0xC0#8 } (fun t =>
      t.f == 0x20#8 && t.pc == 0x0102#16 && t.tcycles == 8) = true := by decide

theorem test_V103 : after [0xCB#8, 0x5E#8]
    { start with h := 0xC0#8, l := 0x00#8, mem := [(0xC000, 0xF7#8)] } (fun t =>
      t.f == 0xA0#8 && t.pc == 0x0102#16 && t.tcycles == 12) = true := by decide

theorem test_V104 : after [0xCB#8, 0x65#8]
    { start with l := 0x10#8, f := 0x90#8 } (fun t =>
      t.f == 0x30#8 && t.pc == 0x0102#16 && t.tcycles == 8) = true := by decide

theorem test_V105 : faults [0xCB#8, 0x80#8]
    start =
      some (.unimplementedOpcode true 0x80#8) := by decide

theorem test_V106 : faults [0xCB#8, 0xC7#8]
    start =
      some (.unimplementedOpcode true 0xC7#8) := by decide

theorem test_V107 : faults [0xCB#8, 0xCB#8]
    start =
      some (.unimplementedOpcode true 0xCB#8) := by decide

theorem test_V113 : after [0x18#8, 0x80#8]
    start (fun t =>
      t.f == 0x00#8 && t.pc == 0x0082#16 && t.tcycles == 12) = true := by decide

theorem test_V114 : after [0x18#8, 0x10#8]
    { start with pc := 0xFFF8#16 } (fun t =>
      t.f == 0x00#8 && t.pc == 0x000A#16 && t.tcycles == 12) = true := by decide

theorem test_V116 : after [0x20#8, 0x05#8]
    { start with f := 0x00#8 } (fun t =>
      t.f == 0x00#8 && t.pc == 0x0107#16 && t.tcycles == 12) = true := by decide

theorem test_V117 : after [0x20#8, 0x05#8]
    { start with f := 0x80#8 } (fun t =>
      t.f == 0x80#8 && t.pc == 0x0102#16 && t.tcycles == 8) = true := by decide

theorem test_V118 : after [0x28#8, 0xFB#8]
    { start with f := 0x80#8 } (fun t =>
      t.f == 0x80#8 && t.pc == 0x00FD#16 && t.tcycles == 12) = true := by decide

theorem test_V119 : after [0x28#8, 0xFB#8]
    { start with f := 0x70#8 } (fun t =>
      t.f == 0x70#8 && t.pc == 0x0102#16 && t.tcycles == 8) = true := by decide

theorem test_V120 : after [0x30#8, 0x02#8]
    { start with f := 0xE0#8 } (fun t =>
      t.f == 0xE0#8 && t.pc == 0x0104#16 && t.tcycles == 12) = true := by decide

theorem test_V121 : after [0x30#8, 0x02#8]
    { start with f := 0x10#8 } (fun t =>
      t.f == 0x10#8 && t.pc == 0x0102#16 && t.tcycles == 8) = true := by decide

theorem test_V122 : after [0x38#8, 0x80#8]
    { start with f := 0x10#8 } (fun t =>
      t.f == 0x10#8 && t.pc == 0x0082#16 && t.tcycles == 12) = true := by decide

theorem test_V123 : after [0x38#8, 0x80#8]
    { start with f := 0xE0#8 } (fun t =>
      t.f == 0xE0#8 && t.pc == 0x0102#16 && t.tcycles == 8) = true := by decide

theorem test_V124 : faults [0xC3#8, 0x00#8, 0x01#8]
    start =
      some (.unimplementedOpcode false 0xC3#8) := by decide

theorem test_V133 : after [0xCD#8, 0x34#8, 0x12#8]
    { start with sp := 0x0001#16, pc := 0x0200#16 } (fun t =>
      t.f == 0x00#8 && t.pc == 0x1234#16 && t.sp == 0xFFFF#16 && t.mem.read 0x0000#16 == 0x02#8 &&
      t.mem.read 0xFFFF#16 == 0x03#8 && t.tcycles == 24) = true := by decide

theorem test_V134 : after [0xC9#8]
    { start with sp := 0xCFFE#16, mem := [(0xCFFE, 0x34#8), (0xCFFF, 0x12#8)] } (fun t =>
      t.f == 0x00#8 && t.pc == 0x1234#16 && t.sp == 0xD000#16 && t.tcycles == 16) = true := by decide

theorem test_V135 : after [0xC9#8]
    { start with sp := 0xFFFF#16, mem := [(0x0000, 0x56#8), (0xFFFF, 0x78#8)] } (fun t =>
      t.f == 0x00#8 && t.pc == 0x5678#16 && t.sp == 0x0001#16 && t.tcycles == 16) = true := by decide

theorem test_V136 : after [0xD9#8]
    { start with sp := 0xCFFE#16, ime := false, mem := [(0xCFFE, 0x34#8), (0xCFFF, 0x12#8)] } (fun t =>
      t.f == 0x00#8 && t.pc == 0x1234#16 && t.sp == 0xD000#16 && t.ime && t.tcycles == 16) = true := by decide

theorem test_V137 : after [0xD9#8]
    { start with sp := 0xCFFE#16, ime := false, mem := [(0xCFFE, 0x34#8), (0xCFFF, 0x12#8), (0xFF0F, 0x04#8), (0xFFFF, 0x04#8)] } (fun t =>
      t.f == 0x00#8 && t.pc == 0x0050#16 && !t.ime && t.mem.read 0xFF0F#16 == 0x00#8 && t.tcycles == 36) = true := by decide

theorem test_V138 : after [0xC5#8]
    { start with b := 0x12#8, c := 0x34#8, sp := 0xD000#16 } (fun t =>
      t.f == 0x00#8 && t.pc == 0x0101#16 && t.sp == 0xCFFE#16 && t.mem.read 0xCFFE#16 == 0x34#8 &&
      t.mem.read 0xCFFF#16 == 0x12#8 && t.tcycles == 16) = true := by decide

theorem test_V139 : after [0xF5#8]
    { start with a := 0x12#8, f := 0xB0#8, sp := 0xD000#16 } (fun t =>
      t.f == 0xB0#8 && t.pc == 0x0101#16 && t.sp == 0xCFFE#16 && t.mem.read 0xCFFE#16 == 0xB0#8 &&
      t.mem.read 0xCFFF#16 == 0x12#8 && t.tcycles == 16) = true := by decide

theorem test_V140 : after [0xD1#8]
    { start with sp := 0xCFFE#16, mem := [(0xCFFE, 0xCD#8), (0xCFFF, 0xAB#8)] } (fun t =>
      t.d == 0xAB#8 && t.e == 0xCD#8 && t.f == 0x00#8 && t.pc == 0x0101#16 && t.sp == 0xD000#16 &&
      t.tcycles == 12) = true := by decide

theorem test_V141 : after [0xF1#8]
    { start with sp := 0xCFFE#16, mem := [(0xCFFE, 0xFF#8), (0xCFFF, 0x12#8)] } (fun t =>
      t.a == 0x12#8 && t.f == 0xF0#8 && t.pc == 0x0101#16 && t.sp == 0xD000#16 && t.tcycles == 12) = true := by decide

theorem test_V142 : after [0xF1#8]
    { start with sp := 0xCFFE#16, f := 0xF0#8, mem := [(0xCFFE, 0x0F#8)] } (fun t =>
      t.f == 0x00#8 && t.pc == 0x0101#16 && t.sp == 0xD000#16 && t.tcycles == 12) = true := by decide

theorem test_V144 : after [0xCD#8, 0x00#8]
    { start with sp := 0xD000#16, pc := 0xFFFE#16, mem := [(0x0000, 0x30#8)] } (fun t =>
      t.f == 0x00#8 && t.pc == 0x3000#16 && t.sp == 0xCFFE#16 && t.mem.read 0xCFFE#16 == 0x01#8 &&
      t.tcycles == 24) = true := by decide

theorem test_V145 : faults [0xC7#8]
    start =
      some (.unimplementedOpcode false 0xC7#8) := by decide

theorem test_V146 : faults [0xC0#8]
    start =
      some (.unimplementedOpcode false 0xC0#8) := by decide

theorem test_V147 : faults [0xC4#8, 0x00#8, 0x00#8]
    start =
      some (.unimplementedOpcode false 0xC4#8) := by decide

theorem test_V150 : after [0xE0#8, 0x0F#8]
    { start with a := 0x01#8 } (fun t =>
      t.f == 0x00#8 && t.pc == 0x0102#16 && t.mem.read 0xFF0F#16 == 0x01#8 && t.tcycles == 12) = true := by decide

theorem test_V151 : after [0xE0#8, 0xFF#8]
    { start with a := 0x1F#8 } (fun t =>
      t.f == 0x00#8 && t.pc == 0x0102#16 && t.mem.read 0xFFFF#16 == 0x1F#8 && t.tcycles == 12) = true := by decide

theorem test_V152 : after [0xF0#8, 0x04#8]
    { start with mem := [(0xFF04, 0xAB#8)] } (fun t =>
      t.a == 0xAB#8 && t.f == 0x00#8 && t.pc == 0x0102#16 && t.tcycles == 12) = true := by decide

theorem test_V153 : after [0xE2#8]
    { start with a := 0x80#8, c := 0x11#8 } (fun t =>
      t.f == 0x00#8 && t.pc == 0x0101#16 && t.mem.read 0xFF11#16 == 0x80#8 && t.tcycles == 8) = true := by decide

theorem test_V154 : after [0xE2#8]
    { start with a := 0x05#8, c := 0xFF#8 } (fun t =>
      t.f == 0x00#8 && t.pc == 0x0101#16 && t.mem.read 0xFFFF#16 == 0x05#8 && t.tcycles == 8) = true := by decide

theorem test_V155 : after [0xF2#8]
    { start with c := 0x0F#8, mem := [(0xFF0F, 0xE1#8)] } (fun t =>
      t.a == 0xE1#8 && t.f == 0x00#8 && t.pc == 0x0101#16 && t.tcycles == 8) = true := by decide

theorem test_V156 : after [0xEA#8, 0x00#8, 0xC0#8]
    { start with a := 0x99#8 } (fun t =>
      t.f == 0x00#8 && t.pc == 0x0103#16 && t.mem.read 0xC000#16 == 0x99#8 && t.tcycles == 16) = true := by decide

theorem test_V157 : after [0xFA#8, 0xFF#8, 0xFF#8]
    { start with mem := [(0xFFFF, 0x15#8)] } (fun t =>
      t.a == 0x15#8 && t.f == 0x00#8 && t.pc == 0x0103#16 && t.tcycles == 16) = true := by decide

theorem test_V160 : after [0xF3#8]
    { start with ime := true, mem := [(0xFF0F, 0x01#8), (0xFFFF, 0x01#8)] } (fun t =>
      t.f == 0x00#8 && t.pc == 0x0101#16 && !t.ime && t.tcycles == 4) = true := by decide

theorem test_V161 : after [0xFB#8, 0x04#8, 0x0C#8]
    { start with sp := 0xD000#16, mem := [(0xFF0F, 0x01#8), (0xFFFF, 0x01#8)] } (fun t =>
      t.f == 0x00#8 && t.pc == 0x0101#16 && t.eiDelay == 1 && t.tcycles == 4) = true := by decide

theorem test_V170 : after [0x04#8]
    { start with sp := 0xD000#16, ime := true, mem := [(0xFF0F, 0x1F#8), (0xFFFF, 0x1F#8)] } (fun t =>
      t.b == 0x01#8 && t.f == 0x00#8 && t.pc == 0x0040#16 && t.sp == 0xCFFE#16 && !t.ime &&
      t.mem.read 0xCFFE#16 == 0x01#8 && t.mem.read 0xCFFF#16 == 0x01#8 && t.mem.read 0xFF0F#16 == 0x1E#8 &&
      t.tcycles == 24) = true := by decide

theorem test_V175 : after [0x04#8]
    { start with sp := 0xD000#16, ime := true, mem := [(0xFF0F, 0x1F#8), (0xFFFF, 0x10#8)] } (fun t =>
      t.b == 0x01#8 && t.f == 0x00#8 && t.pc == 0x0060#16 && t.sp == 0xCFFE#16 && !t.ime &&
      t.mem.read 0xCFFE#16 == 0x01#8 && t.mem.read 0xCFFF#16 == 0x01#8 && t.mem.read 0xFF0F#16 == 0x0F#8 &&
      t.tcycles == 24) = true := by decide

theorem test_V178 : after [0x04#8]
    { start with sp := 0xD000#16, ime := true, mem := [(0xFF0F, 0xE0#8), (0xFFFF, 0xFF#8)] } (fun t =>
      t.b == 0x01#8 && t.f == 0x00#8 && t.pc == 0x0101#16 && t.ime && t.tcycles == 4) = true := by decide

theorem test_V179 : after [0x04#8]
    { start with sp := 0xD000#16, ime := true, mem := [(0xFF0F, 0xFF#8), (0xFFFF, 0xE4#8)] } (fun t =>
      t.b == 0x01#8 && t.f == 0x00#8 && t.pc == 0x0050#16 && t.sp == 0xCFFE#16 && !t.ime &&
      t.mem.read 0xCFFE#16 == 0x01#8 && t.mem.read 0xCFFF#16 == 0x01#8 && t.mem.read 0xFF0F#16 == 0xFB#8 &&
      t.tcycles == 24) = true := by decide

theorem test_V181 : after [0x04#8]
    { start with sp := 0xD000#16, ime := true, mem := [(0xFF0F, 0x05#8), (0xFFFF, 0x06#8)] } (fun t =>
      t.b == 0x01#8 && t.f == 0x00#8 && t.pc == 0x0050#16 && t.sp == 0xCFFE#16 && !t.ime &&
      t.mem.read 0xCFFE#16 == 0x01#8 && t.mem.read 0xCFFF#16 == 0x01#8 && t.mem.read 0xFF0F#16 == 0x01#8 &&
      t.tcycles == 24) = true := by decide

theorem test_V186 : after [0x04#8]
    { start with sp := 0xFF11#16, ime := true, mem := [(0xFF0F, 0x03#8), (0xFFFF, 0x01#8)] } (fun t =>
      t.b == 0x01#8 && t.f == 0x00#8 && t.pc == 0x0040#16 && t.sp == 0xFF0F#16 && !t.ime &&
      t.mem.read 0xFF0F#16 == 0x01#8 && t.mem.read 0xFF10#16 == 0x01#8 && t.tcycles == 24) = true := by decide

theorem test_V187 : after [0xE0#8, 0x0F#8]
    { start with a := 0x04#8, sp := 0xD000#16, ime := true, mem := [(0xFFFF, 0x04#8)] } (fun t =>
      t.f == 0x00#8 && t.pc == 0x0050#16 && t.sp == 0xCFFE#16 && !t.ime && t.mem.read 0xCFFE#16 == 0x02#8 &&
      t.mem.read 0xCFFF#16 == 0x01#8 && t.tcycles == 32) = true := by decide

theorem test_V190 : after [0x04#8]
    { start with acc := 252#8, mem := [(0xFF04, 0x10#8)] } (fun t =>
      t.b == 0x01#8 && t.f == 0x00#8 && t.pc == 0x0101#16 && t.acc == 0#8 && t.mem.read 0xFF04#16 == 0x11#8 &&
      t.tcycles == 4) = true := by decide

theorem test_V191 : after [0x04#8]
    { start with acc := 251#8, mem := [(0xFF04, 0x10#8)] } (fun t =>
      t.b == 0x01#8 && t.f == 0x00#8 && t.pc == 0x0101#16 && t.acc == 255#8 && t.tcycles == 4) = true := by decide

theorem test_V192 : after [0xCD#8, 0x00#8, 0x02#8]
    { start with acc := 255#8, sp := 0xD000#16, mem := [(0xFF04, 0xFF#8)] } (fun t =>
      t.f == 0x00#8 && t.pc == 0x0200#16 && t.sp == 0xCFFE#16 && t.acc == 23#8 &&
      t.mem.read 0xCFFE#16 == 0x03#8 && t.mem.read 0xCFFF#16 == 0x01#8 && t.mem.read 0xFF04#16 == 0x00#8 &&
      t.tcycles == 24) = true := by decide

theorem test_V193 : after [0x04#8]
    { start with acc := 250#8, sp := 0xD000#16, ime := true, mem := [(0xFF0F, 0x01#8), (0xFFFF, 0x01#8)] } (fun t =>
      t.b == 0x01#8 && t.f == 0x00#8 && t.pc == 0x0040#16 && t.sp == 0xCFFE#16 && !t.ime && t.acc == 18#8 &&
      t.mem.read 0xCFFE#16 == 0x01#8 && t.mem.read 0xCFFF#16 == 0x01#8 && t.mem.read 0xFF04#16 == 0x01#8 &&
      t.mem.read 0xFF0F#16 == 0x00#8 && t.tcycles == 24) = true := by decide

theorem test_V194 : after [0x04#8]
    { start with acc := 254#8, sp := 0xD000#16, ime := true, mem := [(0xFF0F, 0x01#8), (0xFFFF, 0x01#8)] } (fun t =>
      t.b == 0x01#8 && t.f == 0x00#8 && t.pc == 0x0040#16 && t.sp == 0xCFFE#16 && !t.ime && t.acc == 22#8 &&
      t.mem.read 0xCFFE#16 == 0x01#8 && t.mem.read 0xCFFF#16 == 0x01#8 && t.mem.read 0xFF04#16 == 0x01#8 &&
      t.mem.read 0xFF0F#16 == 0x00#8 && t.tcycles == 24) = true := by decide

/-! ## The parameters of R8 at other values than their defaults -/

/-- As `after`, under the given parameters. -/
def afterWith (P : Params) (bytes : List Byte) (s : State) (p : State → Bool) : Bool :=
  match stepWith (atPc bytes s) P with
  | .next t => p t
  | .fault _ => false
  | .refused _ => false

/-- A `MEM` that ignores writes below 0x8000, stores 0 for any write to DIV (R61), and forgets the byte at 0xC000
when it is read (R69). -/
def latched : Params :=
  { Params.default with
    mem :=
      { read := fun m a => (m.read a, if a = 0xC000#16 then m.write a 0x00#8 else m)
        write := fun m a v =>
          if a.toNat < 0x8000 then m else m.write a (if a = Config.divAddr then 0x00#8 else v) } }

/-- R61: PUSH at SP = 0x8001 issues both writes; the one at 0x7FFF is ignored. -/
theorem test_mem_ignores_a_write : afterWith latched [0xC5#8] { start with sp := 0x8001#16, b := 0x12#8, c := 0x34#8 }
    (fun t => t.mem.read 0x8000#16 == 0x12#8 && t.mem.read 0x7FFF#16 == 0x00#8 && t.sp == 0x7FFF#16 &&
      t.port == [.read 0x0100#16 0xC5#8, .write 0x8000#16 0x12#8, .write 0x7FFF#16 0x34#8]) = true := by decide

/-- R61: LDH (0x04),A, the byte transformed on its way. -/
theorem test_mem_transforms_a_write : afterWith latched [0xE0#8, 0x04#8] { start with a := 0x42#8 }
    (fun t => t.mem.read 0xFF04#16 == 0x00#8 &&
      t.port == [.read 0x0100#16 0xE0#8, .read 0x0101#16 0x04#8, .write 0xFF04#16 0x42#8]) = true := by decide

/-- R69: LD A,(0xC000) gets the byte, and the collaborator has changed. -/
theorem test_mem_read_changes_it :
    afterWith latched [0xFA#8, 0x00#8, 0xC0#8] { start with mem := [(0xC000, 0x42#8)] }
      (fun t => t.a == 0x42#8 && t.mem.read 0xC000#16 == 0x00#8) = true := by decide

/-- R104, R220: another COST is what the step reports and charges, another VEC where a dispatch goes. -/
theorem test_cost_and_vec :
    afterWith { Params.default with cost := fun _ => 9, vec := fun _ => 0x1234#16 } [0x04#8]
      { start with ime := true, sp := 0xD000#16, mem := [(0xFF0F, 0x01#8), (0xFFFF, 0x01#8)] }
      (fun t => t.b == 0x01#8 && t.pc == 0x1234#16 && t.tcycles == 29 && t.acc == 29#8) = true := by decide

/-- R104, R176: the two costs of a conditional jump. -/
theorem test_cost_not_taken :
    let P : Params := { Params.default with cost := fun _ => 9, costNotTaken := fun _ => 7 }
    afterWith P [0x20#8, 0x05#8] { start with f := 0x80#8 } (fun t => t.pc == 0x0102#16 && t.tcycles == 7) = true ∧
      afterWith P [0x20#8, 0x05#8] start (fun t => t.pc == 0x0107#16 && t.tcycles == 9) = true := by decide

/-! ## Which constructors each family's statement speaks of: the hypotheses `i.form = …` are met by these -/

theorem witness_loads_of_bytes_and_registers :
    [Instr.ld_B_d8 0xFE#8, .ld_C_d8 0xFE#8, .ld_D_d8 0xFE#8, .ld_E_d8 0xFE#8, .ld_H_d8 0xFE#8, .ld_L_d8 0xFE#8,
      .ld_A_d8 0xFE#8, .ld_B_B, .ld_B_C, .ld_B_D, .ld_B_E, .ld_B_H, .ld_B_L, .ld_B_A, .ld_C_B, .ld_C_C, .ld_C_D,
      .ld_C_E, .ld_C_H, .ld_C_L, .ld_C_A, .ld_D_B, .ld_D_C, .ld_D_D, .ld_D_E, .ld_D_H, .ld_D_L, .ld_D_A,
      .ld_E_B, .ld_E_C, .ld_E_D, .ld_E_E, .ld_E_H, .ld_E_L, .ld_E_A, .ld_H_B, .ld_H_C, .ld_H_D, .ld_H_E,
      .ld_H_H, .ld_H_L, .ld_H_A, .ld_L_B, .ld_L_C, .ld_L_D, .ld_L_E, .ld_L_H, .ld_L_L, .ld_L_A, .ld_A_B,
      .ld_A_C, .ld_A_D, .ld_A_E, .ld_A_H, .ld_A_L, .ld_A_A].map Instr.form =
      [.ldRD8 .b 0xFE#8, .ldRD8 .c 0xFE#8, .ldRD8 .d 0xFE#8, .ldRD8 .e 0xFE#8, .ldRD8 .h 0xFE#8,
        .ldRD8 .l 0xFE#8, .ldRD8 .a 0xFE#8, .ldRR .b .b, .ldRR .b .c, .ldRR .b .d, .ldRR .b .e, .ldRR .b .h,
        .ldRR .b .l, .ldRR .b .a, .ldRR .c .b, .ldRR .c .c, .ldRR .c .d, .ldRR .c .e, .ldRR .c .h, .ldRR .c .l,
        .ldRR .c .a, .ldRR .d .b, .ldRR .d .c, .ldRR .d .d, .ldRR .d .e, .ldRR .d .h, .ldRR .d .l, .ldRR .d .a,
        .ldRR .e .b, .ldRR .e .c, .ldRR .e .d, .ldRR .e .e, .ldRR .e .h, .ldRR .e .l, .ldRR .e .a, .ldRR .h .b,
        .ldRR .h .c, .ldRR .h .d, .ldRR .h .e, .ldRR .h .h, .ldRR .h .l, .ldRR .h .a, .ldRR .l .b, .ldRR .l .c,
        .ldRR .l .d, .ldRR .l .e, .ldRR .l .h, .ldRR .l .l, .ldRR .l .a, .ldRR .a .b, .ldRR .a .c, .ldRR .a .d,
        .ldRR .a .e, .ldRR .a .h, .ldRR .a .l, .ldRR .a .a] := by decide

theorem witness_loads_from_memory :
    [Instr.ld_B_mHL, .ld_C_mHL, .ld_D_mHL, .ld_E_mHL, .ld_H_mHL, .ld_L_mHL, .ld_A_mHL, .ld_A_mBC, .ld_A_mDE,
      .ldh_A_mA8 0xFE#8, .ld_A_mC, .ld_A_mA16 0xABCD#16].map Instr.form =
      [.ldRHl .b, .ldRHl .c, .ldRHl .d, .ldRHl .e, .ldRHl .h, .ldRHl .l, .ldRHl .a, .ldARr .bc, .ldARr .de,
        .ldhAA8 0xFE#8, .ldAC, .ldAA16 0xABCD#16] := by decide

theorem witness_stores_to_memory :
    [Instr.ld_mHL_B, .ld_mHL_C, .ld_mHL_D, .ld_mHL_E, .ld_mHL_H, .ld_mHL_L, .ld_mHL_A, .ld_mBC_A, .ld_mDE_A,
      .ldh_mA8_A 0xFE#8, .ld_mC_A, .ld_mA16_A 0xABCD#16].map Instr.form =
      [.ldHlR .b, .ldHlR .c, .ldHlR .d, .ldHlR .e, .ldHlR .h, .ldHlR .l, .ldHlR .a, .ldRrA .bc, .ldRrA .de,
        .ldhA8A 0xFE#8, .ldCA, .ldA16A 0xABCD#16] := by decide

theorem witness_loads_of_words :
    [Instr.ld_BC_d16 0xABCD#16, .ld_DE_d16 0xABCD#16, .ld_HL_d16 0xABCD#16, .ld_SP_d16 0xABCD#16].map Instr.form =
      [.ldRrD16 .bc 0xABCD#16, .ldRrD16 .de 0xABCD#16, .ldRrD16 .hl 0xABCD#16, .ldRrD16 .sp 0xABCD#16] := by decide

theorem witness_increments_and_decrements :
    [Instr.inc_B, .inc_C, .inc_D, .inc_E, .inc_H, .inc_L, .inc_A, .dec_B, .dec_C, .dec_D, .dec_E, .dec_H, .dec_L,
      .dec_A].map Instr.form =
      [.incR .b, .incR .c, .incR .d, .incR .e, .incR .h, .incR .l, .incR .a, .decR .b, .decR .c, .decR .d,
        .decR .e, .decR .h, .decR .l, .decR .a] := by decide

theorem witness_word_increments_and_decrements :
    [Instr.inc_BC, .inc_DE, .inc_HL, .inc_SP, .dec_BC, .dec_DE, .dec_HL, .dec_SP].map Instr.form =
      [.incRr .bc, .incRr .de, .incRr .hl, .incRr .sp, .decRr .bc, .decRr .de, .decRr .hl, .decRr .sp] := by decide

theorem witness_add_sub_cp :
    [Instr.add_A_B, .add_A_C, .add_A_D, .add_A_E, .add_A_H, .add_A_L, .add_A_A, .sub_B, .sub_C, .sub_D, .sub_E,
      .sub_H, .sub_L, .sub_A, .cp_B, .cp_C, .cp_D, .cp_E, .cp_H, .cp_L, .cp_A, .add_A_mHL, .sub_mHL, .cp_mHL,
      .add_A_d8 0xFE#8, .sub_d8 0xFE#8, .cp_d8 0xFE#8].map Instr.form =
      [.aluR .add .b, .aluR .add .c, .aluR .add .d, .aluR .add .e, .aluR .add .h, .aluR .add .l, .aluR .add .a,
        .aluR .sub .b, .aluR .sub .c, .aluR .sub .d, .aluR .sub .e, .aluR .sub .h, .aluR .sub .l, .aluR .sub .a,
        .aluR .cp .b, .aluR .cp .c, .aluR .cp .d, .aluR .cp .e, .aluR .cp .h, .aluR .cp .l, .aluR .cp .a,
        .aluHl .add, .aluHl .sub, .aluHl .cp, .aluD8 .add 0xFE#8, .aluD8 .sub 0xFE#8, .aluD8 .cp 0xFE#8] := by decide

theorem witness_rotates :
    [Instr.rla, .rra, .rlc_B, .rlc_C, .rlc_D, .rlc_E, .rlc_H, .rlc_L, .rlc_A, .rrc_B, .rrc_C, .rrc_D, .rrc_E,
      .rrc_H, .rrc_L, .rrc_A, .rl_B, .rl_C, .rl_D, .rl_E, .rl_H, .rl_L, .rl_A, .rr_B, .rr_C, .rr_D, .rr_E,
      .rr_H, .rr_L, .rr_A, .rlc_mHL, .rrc_mHL, .rl_mHL, .rr_mHL].map Instr.form =
      [.rotA .left, .rotA .right, .cbRotR .rlc .b, .cbRotR .rlc .c, .cbRotR .rlc .d, .cbRotR .rlc .e,
        .cbRotR .rlc .h, .cbRotR .rlc .l, .cbRotR .rlc .a, .cbRotR .rrc .b, .cbRotR .rrc .c, .cbRotR .rrc .d,
        .cbRotR .rrc .e, .cbRotR .rrc .h, .cbRotR .rrc .l, .cbRotR .rrc .a, .cbRotR .rl .b, .cbRotR .rl .c,
        .cbRotR .rl .d, .cbRotR .rl .e, .cbRotR .rl .h, .cbRotR .rl .l, .cbRotR .rl .a, .cbRotR .rr .b,
        .cbRotR .rr .c, .cbRotR .rr .d, .cbRotR .rr .e, .cbRotR .rr .h, .cbRotR .rr .l, .cbRotR .rr .a,
        .cbRotHl .rlc, .cbRotHl .rrc, .cbRotHl .rl, .cbRotHl .rr] := by decide

theorem witness_bit_tests :
    [Instr.bit_0_B, .bit_0_C, .bit_0_D, .bit_0_E, .bit_0_H, .bit_0_L, .bit_0_A, .bit_1_B, .bit_1_C, .bit_1_D,
      .bit_1_E, .bit_1_H, .bit_1_L, .bit_1_A, .bit_2_B, .bit_2_C, .bit_2_D, .bit_2_E, .bit_2_H, .bit_2_L,
      .bit_2_A, .bit_3_B, .bit_3_C, .bit_3_D, .bit_3_E, .bit_3_H, .bit_3_L, .bit_3_A, .bit_4_B, .bit_4_C,
      .bit_4_D, .bit_4_E, .bit_4_H, .bit_4_L, .bit_4_A, .bit_5_B, .bit_5_C, .bit_5_D, .bit_5_E, .bit_5_H,
      .bit_5_L, .bit_5_A, .bit_6_B, .bit_6_C, .bit_6_D, .bit_6_E, .bit_6_H, .bit_6_L, .bit_6_A, .bit_7_B,
      .bit_7_C, .bit_7_D, .bit_7_E, .bit_7_H, .bit_7_L, .bit_7_A, .bit_0_mHL, .bit_1_mHL, .bit_2_mHL,
      .bit_3_mHL, .bit_4_mHL, .bit_5_mHL, .bit_6_mHL, .bit_7_mHL].map Instr.form =
      [.cbBitR 0 .b, .cbBitR 0 .c, .cbBitR 0 .d, .cbBitR 0 .e, .cbBitR 0 .h, .cbBitR 0 .l, .cbBitR 0 .a,
        .cbBitR 1 .b, .cbBitR 1 .c, .cbBitR 1 .d, .cbBitR 1 .e, .cbBitR 1 .h, .cbBitR 1 .l, .cbBitR 1 .a,
        .cbBitR 2 .b, .cbBitR 2 .c, .cbBitR 2 .d, .cbBitR 2 .e, .cbBitR 2 .h, .cbBitR 2 .l, .cbBitR 2 .a,
        .cbBitR 3 .b, .cbBitR 3 .c, .cbBitR 3 .d, .cbBitR 3 .e, .cbBitR 3 .h, .cbBitR 3 .l, .cbBitR 3 .a,
        .cbBitR 4 .b, .cbBitR 4 .c, .cbBitR 4 .d, .cbBitR 4 .e, .cbBitR 4 .h, .cbBitR 4 .l, .cbBitR 4 .a,
        .cbBitR 5 .b, .cbBitR 5 .c, .cbBitR 5 .d, .cbBitR 5 .e, .cbBitR 5 .h, .cbBitR 5 .l, .cbBitR 5 .a,
        .cbBitR 6 .b, .cbBitR 6 .c, .cbBitR 6 .d, .cbBitR 6 .e, .cbBitR 6 .h, .cbBitR 6 .l, .cbBitR 6 .a,
        .cbBitR 7 .b, .cbBitR 7 .c, .cbBitR 7 .d, .cbBitR 7 .e, .cbBitR 7 .h, .cbBitR 7 .l, .cbBitR 7 .a,
        .cbBitHl 0, .cbBitHl 1, .cbBitHl 2, .cbBitHl 3, .cbBitHl 4, .cbBitHl 5, .cbBitHl 6, .cbBitHl 7] := by decide

theorem witness_jumps_call_returns_stack :
    [Instr.jr_i8 0xFE#8, .jr_NZ_i8 0xFE#8, .jr_Z_i8 0xFE#8, .jr_NC_i8 0xFE#8, .jr_C_i8 0xFE#8, .call_u16 0xABCD#16,
      .ret, .reti, .push_BC, .push_DE, .push_HL, .push_AF, .pop_BC, .pop_DE, .pop_HL, .pop_AF].map Instr.form =
      [.jr 0xFE#8, .jrCc .nz 0xFE#8, .jrCc .z 0xFE#8, .jrCc .nc 0xFE#8, .jrCc .c 0xFE#8, .call 0xABCD#16, .ret,
        .reti, .push .bc, .push .de, .push .hl, .push .af, .pop .bc, .pop .de, .pop .hl, .pop .af] := by decide

theorem witness_interrupt_toggles :
    [Instr.di, .ei].map Instr.form =
      [.di, .ei] := by decide

theorem witness_no_entry :
    Instr.noEntry_00.form = .noEntry 0x00#8 ∧ Instr.noEntry_FF.form = .noEntry 0xFF#8 ∧
      Instr.noEntry_CB_20.form = .noEntryCb 0x20#8 ∧ Instr.noEntry_CB_FF.form = .noEntryCb 0xFF#8 := by decide

/-! ## States and operands that meet the other hypotheses, clause by clause -/

/-- SP in RAM, IME 1, the given IF and IE, and `INC B` at PC. -/
def armed (ifv iev : Byte) : State :=
  { start with
    sp := 0xD000#16
    ime := true
    mem := ((Memory.write [] 0x0100#16 0x04#8).write 0xFF0F#16 ifv).write 0xFFFF#16 iev }

theorem witness_DecodeOfEncode :
    (Instr.ld_B_d8 0x42#8).form.notBarePrefix = true ∧ Instr.noEntry_00.form.notBarePrefix = true := by decide

/-- A byte with no entry at PC, in both tables, at the ends of the prefixed ranges, and the bytes beside them. -/
theorem witness_StepFaults :
    0x00#8 ∈ noEntryBaseBytes ∧ 0xFF#8 ∈ noEntryBaseBytes ∧ 0x04#8 ∉ noEntryBaseBytes ∧ 0xCB#8 ∉ noEntryBaseBytes ∧
      noEntryPrefixedByte 0x20#8 ∧ noEntryPrefixedByte 0x3F#8 ∧ noEntryPrefixedByte 0x80#8 ∧
      noEntryPrefixedByte 0xFF#8 ∧ ¬noEntryPrefixedByte 0x1F#8 ∧ ¬noEntryPrefixedByte 0x40#8 ∧
      ¬noEntryPrefixedByte 0x7F#8 := by
  unfold noEntryPrefixedByte; decide

theorem witness_StepFaults_no_fault : ¬∃ r, step (armed 0 0) = .fault r := by
  rintro ⟨r, h⟩
  have e : ∃ t, step (armed 0 0) = .next t := ⟨_, rfl⟩
  obtain ⟨t, e⟩ := e
  rw [e] at h
  cases h

theorem witness_StepRunsTheDecodedInstruction :
    let s : State := { start with mem := [(0x0100, 0x21#8), (0x0101, 0x34#8), (0x0102, 0x12#8)] }
    decode [s.mem.read s.pc, s.mem.read (s.pc + 1#16), s.mem.read (s.pc + 2#16)] =
      .ok (.ld_HL_d16 0x1234#16) [] := by decide

theorem witness_ResetMeetsInvariant : Memory.wf [(0x0000, 0x3E#8), (0xFFFF, 0x1F#8)] = true := by decide

theorem witness_StepKeepsInvariant :
    ((armed 0x03 0x03).Inv ∧ ∃ t, step (armed 0x03 0x03) = .next t) ∧
      Params.default.mem.Keeps (fun m => m.wf = true) ∧ (∃ t, stepWith (armed 0x03 0x03) = .next t) := by
  refine ⟨⟨?_, _, rfl⟩, Mem.flat_keeps_wf, _, rfl⟩
  unfold State.Inv State.InvWith; decide

/-- A MEM that is not flat keeps the canonical form too. -/
theorem witness_StepKeepsInvariant_latched :
    latched.mem.Keeps (fun m => m.wf = true) ∧ (armed 0x03 0x03).InvWith (fun m => m.wf = true) ∧
      ∃ t, stepWith (armed 0x03 0x03) latched = .next t := by
  refine ⟨⟨?_, ?_⟩, ?_, _, rfl⟩
  · intro m a h
    show (if a = 0xC000#16 then m.write a 0x00#8 else m).wf = true
    split
    · exact Memory.wf_write h _ _
    · exact h
  · intro m a v h
    show (if a.toNat < 0x8000 then m else m.write a (if a = Config.divAddr then 0x00#8 else v)).wf = true
    split
    · exact h
    · exact Memory.wf_write h _ _
  · unfold State.InvWith; decide

/-- From reset with IME 1 and empty memory: a state another agent then leaves, and the state after its step. -/
theorem witness_EveryReachableState :
    let P := Params.openFlat true []
    Memory.wf [] = true ∧ Reachable P P.reset ∧ Reachable P (P.reset.env [(0, 0x04#8)]) ∧
      ∃ t, Reachable P t ∧ t.pc = 0x0001#16 ∧ t.ime = true := by
  have h0 : Reachable (Params.openFlat true []) (Params.openFlat true []).reset := .reset
  have h1 := h0.env [(0, 0x04#8)] (by show Memory.wf _ = true; decide)
  exact ⟨rfl, h0, h1, _, h1.step rfl, by decide, by decide⟩

/-- A property of memory that MEM_INIT has and that MEM and ENV keep. -/
theorem witness_EveryReachableState_keeps :
    let P := Params.openFlat false [(0, 0x04#8)]
    P.mem.Keeps (fun m => m.wf = true) ∧ P.memInit.wf = true ∧ ∀ m n, m.wf = true → P.env m n → n.wf = true :=
  ⟨Mem.flat_keeps_wf, by decide, fun _ _ _ h => h⟩

theorem witness_MemoriesThatReadAlike : ∀ a, Memory.read [(1, 0x42#8)] a = (Memory.write [] 1#16 0x42#8).read a :=
  fun _ => rfl

theorem witness_ReadAfterWrite :
    Memory.wf [(0xFFFF, 0x01#8)] = true ∧ (0x0000#16 : Word) ≠ 0xFFFF#16 := by decide

theorem witness_RegisterWrites : Reg8.b ≠ Reg8.a := by decide

theorem witness_PairsAreTwoRegisters : ({ start with f := 0xF0#8 } : State).f &&& 0x0F#8 = 0#8 := by decide

theorem witness_FlagPrimitives :
    ({ start with f := 0xB0#8 } : State).f &&& 0x0F#8 = 0#8 ∧ (0xF0#8 : Byte) &&& 0x0F#8 = 0#8 ∧
      (0x00#8 : Byte) &&& 0x0F#8 = 0#8 ∧
      ∀ k, (0x80#8 : Byte).getLsbD k = true → ({ start with f := 0xB0#8 } : State).f.getLsbD k = true := by
  refine ⟨by decide, by decide, by decide, ?_⟩
  intro k hk
  have hk8 : k < 8 := by
    by_contra hc
    rw [BitVec.getLsbD_of_ge _ _ (by omega)] at hk
    cases hk
  revert hk
  interval_cases k <;> decide

theorem witness_Push16_Pop16 : start.mem.wf = true ∧ (0x0000#16 : Word) ≠ start.sp - 2#16 ∧
    (0x0000#16 : Word) ≠ start.sp - 2#16 + 1#16 := by decide

/-- The state after the push itself, and one whose other bytes and registers differ. -/
theorem witness_Pop16_later_state :
    let t := start.push16 0x1234#16
    let v : State := { t with a := 0x99#8, mem := t.mem.write 0xC000#16 0x01#8 }
    v.sp = t.sp ∧ v.mem.read v.sp = t.mem.read v.sp ∧ v.mem.read (v.sp + 1#16) = t.mem.read (v.sp + 1#16) := by decide

theorem witness_Sub8_equal_operands : (sub8 0x3E#8 0x3E#8).z = true ∧ (sub8 0x00#8 0x00#8).z = true := by decide

theorem witness_IncrementAndDecrement :
    (∃ t u, exec .inc_B start = .next t ∧ exec .dec_B t = .next u) ∧
      ∃ t u, exec .dec_B start = .next t ∧ exec .inc_B t = .next u := ⟨⟨_, _, rfl, rfl⟩, _, _, rfl, rfl⟩

/-- Each condition both ways. -/
theorem witness_JumpRelativeOnCondition :
    ({ start with f := 0x70#8 } : State).f.getLsbD 7 = false ∧
      ({ start with f := 0x80#8 } : State).f.getLsbD 7 = true ∧
      ({ start with f := 0xE0#8 } : State).f.getLsbD 4 = false ∧
      ({ start with f := 0x10#8 } : State).f.getLsbD 4 = true := by decide

theorem witness_ReturnUndoesCall :
    let s : State := { start with sp := 0xD000#16 }
    s.mem.wf = true ∧ ∃ t w, exec (.call_u16 0x0150#16) s = .next t ∧ exec .ret t = .next w :=
  ⟨rfl, _, _, rfl, rfl⟩

theorem witness_InterruptEnableToggles :
    start.eiDelay = 0 ∧ ({ start with eiDelay := 1 } : State).eiDelay ≠ 0 ∧
      ({ start with eiDelay := 2 } : State).eiDelay ≠ 0 := by decide

/-- For the frames: an instruction that completes from canonical memory; formats with and without stores, moving
and not moving SP, PC and IME; a register and an address outside what they write. -/
theorem witness_frames :
    (start.mem.wf = true ∧ ∃ t, exec .push_BC start = .next t) ∧
      (∃ t, exec .inc_B start = .next t) ∧ Reg8.a ∉ Instr.inc_B.form.entry.dest ∧
      (0x0000#16 : Word) ∉ Instr.push_BC.form.entry.storedAddrs start ∧
      Instr.inc_B.form.entry.storedAddrs start = [] ∧
      Instr.inc_B.form.entry.mayMoveSp = false ∧ Instr.inc_B.form.entry.setsPc = false ∧
      Instr.inc_B.form.entry.writesIme = false ∧
      Instr.ld_B_B.form.entry.flagRow = ⟨.kept, .kept, .kept, .kept⟩ ∧
      (∃ t, exec (.prefixCB 0x7C#8) start = .next t) ∧
      Instr.form (.prefixCB 0x7C#8) = .prefixCb 0x7C#8 ∧ (Form.prefixCb 0x7C#8).entry = .cbBitR 7 .h := by
  refine ⟨⟨rfl, _, rfl⟩, ⟨_, rfl⟩, by decide, by decide, by decide, by decide, by decide, by decide, by decide, ⟨_, rfl⟩,
    by decide, by decide⟩

/-- For the frames and the whole-step rules under any parameters: parameters other than the defaults, with the flat
memory and without, under which a format completes; two that agree on MEM and differ in COST. -/
theorem witness_parameters :
    let P : Params := { Params.default with cost := fun _ => 9, vec := fun _ => 0x1234#16 }
    P.mem = Mem.flat ∧ P.mem = Params.default.mem ∧ (∃ t, execForm (.push .bc) start P = .next t) ∧
      (∃ t, stepWith (armed 0x01 0x01) P = .next t) ∧ (∃ t, execForm (.push .bc) start latched = .next t) ∧
      ∃ t, stepWith (armed 0x01 0x01) latched = .next t :=
  ⟨rfl, rfl, ⟨_, rfl⟩, ⟨_, rfl⟩, ⟨_, rfl⟩, _, rfl⟩

/-- No tick at 255, a tick at 256. -/
theorem witness_Charge :
    (24 ≤ 255) ∧ ({ start with acc := 231#8 } : State).acc.toNat + 24 ≤ 255 ∧
      255 < ({ start with acc := 232#8 } : State).acc.toNat + 24 ∧ ({ start with acc := 255#8 } : State).mem.wf = true ∧
      Params.default.mem = Mem.flat :=
  ⟨by decide, by decide, by decide, by decide, rfl⟩

theorem witness_EiDelayTick :
    start.eiDelay = 0 ∧ ({ start with eiDelay := 1 } : State).eiDelay = 1 ∧
      ({ start with eiDelay := 2 } : State).eiDelay = 2 := by decide

/-- IME 0; IME 1 and no request (bits 7..5 only); the lowest and the highest source requesting. -/
theorem witness_InterruptCheck :
    start.ime = false ∧ ((armed 0xE0 0xFF).ime = true ∧ ∀ i, ¬(armed 0xE0 0xFF).requests i) ∧
      ((armed 0x1F 0x1F).requests .vblank ∧ ∀ j : Source, j.bit < Source.bit .vblank → ¬(armed 0x1F 0x1F).requests j) ∧
      ((armed 0x1F 0x10).requests .joypad ∧
        ∀ j : Source, j.bit < Source.bit .joypad → ¬(armed 0x1F 0x10).requests j) := by
  refine ⟨rfl, ⟨rfl, ?_⟩, ⟨?_, ?_⟩, ?_, ?_⟩
  · intro i; cases i <;> unfold State.requests <;> decide
  · unfold State.requests; decide
  · intro j; cases j <;> unfold State.requests <;> decide
  · unfold State.requests; decide
  · intro j; cases j <;> unfold State.requests <;> decide

/-- IME rises by RETI and by a pending EI; it falls by DI and by a dispatch. -/
theorem witness_ImeChanges :
    after [0xD9#8] start (fun t => t.ime) = true ∧ after [0x04#8] { start with eiDelay := 1 } (fun t => t.ime) = true ∧
      after [0xF3#8] { start with ime := true } (fun t => !t.ime) = true ∧
      after [0x04#8] (armed 0x01 0x01) (fun t => !t.ime) = true := by decide

/-- IME at 1 and at 0, where the instruction at PC is the one the clause names; a dispatch, with PC at the vector and
SP 2 lower. -/
theorem witness_ImeChanges_instructions :
    (atPc [0xD9#8] start).instrAtPc = .reti ∧ (atPc [0xF3#8] start).instrAtPc = .di ∧
      after [0x04#8] (armed 0x01 0x01) (fun t => t.pc == vec .vblank && t.sp == 0xCFFE#16) = true ∧
      afterWith { Params.default with vec := fun _ => 0x1234#16 } [0x04#8] (armed 0x01 0x01)
        (fun t => !t.ime && t.pc == 0x1234#16 && t.sp == 0xCFFE#16) = true := by decide

/-- The three clauses: EI with none pending; a pending EI before an instruction other than DI; DI. -/
theorem witness_EiTakesEffect :
    ((atPc [0xFB#8] start).instrAtPc = .ei ∧ (atPc [0xFB#8] start).ime = false ∧
        (atPc [0xFB#8] start).eiDelay = 0) ∧
      ((atPc [0x04#8] { start with eiDelay := 1 }).eiDelay = 1 ∧
        (atPc [0x04#8] { start with eiDelay := 1 }).instrAtPc ≠ .di ∧
        ∃ t, step (atPc [0x04#8] { start with eiDelay := 1 }) = .next t) ∧
      (atPc [0xF3#8] start).instrAtPc = .di :=
  ⟨⟨by decide, by decide, by decide⟩, ⟨by decide, by decide, _, rfl⟩, by decide⟩

/-- A step without a dispatch and one with; the second also moves SP, as a PUSH does without one. -/
theorem witness_StepReportsItsCost :
    after [0x04#8] start (fun t => t.tcycles == 4) = true ∧
      after [0x04#8] (armed 0x01 0x01) (fun t => t.tcycles == 24 && t.sp != 0xD000#16) = true ∧
      after [0xC5#8] start (fun t => t.sp != 0x0000#16) = true := by decide

end Sys2Proof.Tests
end

section
/-! The extensions of a byte to a word as numbers (R12; 00_scope.md). -/

namespace Sys2Proof.Machine

/-- `zext_16` keeps the value (R12): 16 bits hold every byte. -/
@[simp] theorem zext16_toNat (b : Byte) : (zext16 b).toNat = b.toNat :=
  BitVec.toNat_setWidth_of_le (by decide)

/-- `sext_16` by the sign bit (R12): when it is set, the upper byte is all ones. -/
theorem sext16_toNat (b : Byte) :
    (sext16 b).toNat = b.toNat + if b.msb then 0xFF00 else 0 := by
  have hkeep : (b.setWidth 16).toNat = b.toNat := BitVec.toNat_setWidth_of_le (by decide)
  rw [sext16, BitVec.toNat_signExtend, hkeep]

/-- A byte below 0x80 is its own sign extension (R12). -/
theorem sext16_toNat_of_lt (b : Byte) (h : b.toNat < 128) : (sext16 b).toNat = b.toNat := by
  have hmsb : b.msb = false := BitVec.msb_eq_false_iff_two_mul_lt.mpr (by omega)
  simp [sext16_toNat, hmsb]

/-- A byte from 0x80 on is extended with 0xFF above it (R12). -/
theorem sext16_toNat_of_le (b : Byte) (h : 128 ≤ b.toNat) :
    (sext16 b).toNat = b.toNat + 0xFF00 := by
  have hmsb : b.msb = true := BitVec.msb_eq_true_iff_two_mul_ge.mpr (by omega)
  simp [sext16_toNat, hmsb]

/-- Settles O23, by the value of the byte against 0x80. -/
theorem extensions : Obligations.Extensions := by
  unfold Obligations.Extensions
  intro b
  refine ⟨zext16_toNat b, ?_⟩
  split
  case isTrue hlt => exact sext16_toNat_of_lt b hlt
  case isFalse hge => exact sext16_toNat_of_le b (Nat.le_of_not_lt hge)

end Sys2Proof.Machine
end

section
/-! What an executed format leaves, for every format at once: the state its shared operation completes with, and the
frame of that state. The statements on whole families (R33, R36, R38 to R42) and on whole steps follow from these. -/

namespace Sys2Proof

open Machine

/-! ## The state a format completes with -/

/-- RLA and RRA rotate as RL and RR do (R161, R162). -/
def Dir.kind : Dir → RotKind
  | .left => .rl
  | .right => .rr

/-- The state the execute phase of a format leaves, but for the cost it reports (`execForm_next`). A byte with no entry
completes nothing, and the bare prefix stands for its entry (`Form.entry`): for these the state as it was. -/
def Form.after (s : State) (P : Params) : Form → State
  | .ldRR dst src => s.setReg dst (s.reg src)
  | .ldRHl dst => (s.memRead s.addrHL P).2.setReg dst (s.memRead s.addrHL P).1
  | .ldHlR src => s.memWrite s.addrHL (s.reg src) P
  | .ldRD8 dst d8 => s.setReg dst d8
  | .incR dst => (s.setReg dst (s.reg dst + 1)).writeZNH (s.reg dst + 1 == 0) false (s.reg dst &&& 0x0F#8 == 0x0F#8)
  | .decR dst => (s.setReg dst (s.reg dst - 1)).writeZNH (s.reg dst - 1 == 0) true (s.reg dst &&& 0x0F#8 == 0x00#8)
  | .ldRrD16 rr d16 => s.setReg16 rr d16
  | .incRr rr => s.setReg16 rr (s.reg16 rr + 1)
  | .decRr rr => s.setReg16 rr (s.reg16 rr - 1)
  | .ldRrA p => s.memWrite (s.addrInd p) s.a P
  | .ldARr p => (s.memRead (s.addrInd p) P).2.setReg .a (s.memRead (s.addrInd p) P).1
  | .rotA dir => (s.setReg .a (rotate dir.kind s.a s.flagC).1).writeZNHC false false false
      (rotate dir.kind s.a s.flagC).2
  | .jr i8 => { s with pc := s.pc + sext16 i8 }
  | .jrCc cc i8 => { s with pc := if s.holds cc then s.pc + sext16 i8 else s.pc }
  | .aluR op src => s.alu op (s.reg src)
  | .aluHl op => (s.memRead s.addrHL P).2.alu op (s.memRead s.addrHL P).1
  | .aluD8 op d8 => s.alu op d8
  | .pop p => (s.pop16 P).2.setPair p (s.pop16 P).1
  | .push p => s.push16 (s.pair p) P
  | .ret => { (s.pop16 P).2 with pc := (s.pop16 P).1 }
  | .reti => s.returnFromInterrupt P
  | .call u16 => { s.push16 s.pc P with pc := u16 }
  | .ldhA8A a8 => s.memWrite (ioAddr a8) s.a P
  | .ldhAA8 a8 => (s.memRead (ioAddr a8) P).2.setReg .a (s.memRead (ioAddr a8) P).1
  | .ldCA => s.memWrite (ioAddr s.c) s.a P
  | .ldAC => (s.memRead (ioAddr s.c) P).2.setReg .a (s.memRead (ioAddr s.c) P).1
  | .ldA16A a16 => s.memWrite a16 s.a P
  | .ldAA16 a16 => (s.memRead a16 P).2.setReg .a (s.memRead a16 P).1
  | .di => { s with ime := false, eiDelay := 0 }
  | .ei => { s with eiDelay := if s.eiDelay = 0 then 2 else s.eiDelay }
  | .cbRotR k src => (s.setReg src (rotate k (s.reg src) s.flagC).1).writeZNHC
      ((rotate k (s.reg src) s.flagC).1 == 0) false false (rotate k (s.reg src) s.flagC).2
  | .cbRotHl k =>
      ((s.memRead s.addrHL P).2.memWrite s.addrHL (rotate k (s.memRead s.addrHL P).1 s.flagC).1 P).writeZNHC
        ((rotate k (s.memRead s.addrHL P).1 s.flagC).1 == 0) false false (rotate k (s.memRead s.addrHL P).1 s.flagC).2
  | .cbBitR n src => s.writeZNH (!(s.reg src).getLsbD n) false true
  | .cbBitHl n => (s.memRead s.addrHL P).2.writeZNH (!(s.memRead s.addrHL P).1.getLsbD n) false true
  | .prefixCb _ | .noEntry _ | .noEntryCb _ => s

/-! ## The bare prefix and its entry -/

/-- The prefixed table of R96 has the formats of the bit patterns of R91. -/
theorem decodePrefixed_form (op2 : Byte) : (decodePrefixed op2).form = prefixedForm op2 := by
  revert op2; decide

/-- A prefixed entry is no prefix itself, and moves neither SP (R39) nor IME and EI_DELAY (R40, R41): it is a bit test,
a rotate or a decode failure. -/
theorem decodePrefixed_frame (op2 : Byte) : (decodePrefixed op2).form.notBarePrefix = true ∧
    (decodePrefixed op2).form.mayMoveSp = false ∧ (decodePrefixed op2).form.writesIme = false := by
  rw [decodePrefixed_form]
  unfold prefixedForm
  dsimp only
  split_ifs
  · cases reg8Of (op2.extractLsb' 0 3) <;> exact ⟨rfl, rfl, rfl⟩
  · cases reg8Of (op2.extractLsb' 0 3) <;> exact ⟨rfl, rfl, rfl⟩
  · exact ⟨rfl, rfl, rfl⟩

theorem Form.entry_notBarePrefix (f : Form) : f.entry.notBarePrefix = true := by
  cases f with
  | prefixCb op2 =>
    obtain ⟨hp, -, -⟩ := decodePrefixed_frame op2
    exact hp
  | _ => rfl

@[simp] theorem Form.entry_mayMoveSp (f : Form) : f.entry.mayMoveSp = f.mayMoveSp := by
  cases f with
  | prefixCb op2 =>
    obtain ⟨-, hsp, -⟩ := decodePrefixed_frame op2
    exact hsp
  | _ => rfl

@[simp] theorem Form.entry_writesIme (f : Form) : f.entry.writesIme = f.writesIme := by
  cases f with
  | prefixCb op2 =>
    obtain ⟨-, -, hime⟩ := decodePrefixed_frame op2
    exact hime
  | _ => rfl

/-- Every format executes as its entry (R202). -/
theorem execForm_entry (f : Form) (s : State) (P : Params) : execForm f s P = execForm f.entry s P := by
  cases f with
  | prefixCb op2 => exact (prefixedEntry_eq op2 s P).trans (by rw [Form.entry, decodePrefixed_form])
  | _ => rfl

/-- A conditional jump moves PC or leaves it; both ways it completes (R176). -/
theorem jumpRelIf_eq (cc : Cond) (i8 : Byte) (s : State) (P : Params) : jumpRelIf cc i8 s P =
    complete (if s.holds cc then P.cost (.jrCc cc i8) else P.costNotTaken cc)
      { s with pc := if s.holds cc then s.pc + sext16 i8 else s.pc } := by
  unfold jumpRelIf
  split <;> rfl

/-- EI starts the count unless it runs already (R201). -/
theorem enableIrq_eq (s : State) (P : Params) : enableIrq s P =
    complete (P.cost .ei) { s with eiDelay := if s.eiDelay = 0 then 2 else s.eiDelay } := by
  unfold enableIrq
  split <;> rfl

theorem execForm_next_of_notBarePrefix {f : Form} {s t : State} {P : Params} (hf : f.notBarePrefix = true)
    (h : execForm f s P = .next t) : ∃ n, t = { f.after s P with tcycles := n } := by
  cases f with
  | prefixCb => cases hf
  | noEntry => cases h
  | noEntryCb => cases h
  | rotA dir => cases dir <;> exact ⟨_, complete_next h⟩
  | jrCc cc i8 => exact ⟨_, complete_next ((jumpRelIf_eq cc i8 s P).symm.trans h)⟩
  | ei => exact ⟨_, complete_next ((enableIrq_eq s P).symm.trans h)⟩
  | _ => exact ⟨_, complete_next h⟩

/-- Everything an executed format does: it leaves `Form.after` of its entry and reports some cost. -/
theorem execForm_next {f : Form} {s t : State} {P : Params} (h : execForm f s P = .next t) :
    ∃ n, t = { f.entry.after s P with tcycles := n } :=
  execForm_next_of_notBarePrefix f.entry_notBarePrefix (execForm_entry f s P ▸ h)

end Sys2Proof
end

section
/-! The registers after each update, and the frame of the state a format leaves. -/

namespace Sys2Proof.Machine

/-! ## Registers (R30 to R32) -/

/-- Two states whose seven registers agree read alike. -/
theorem State.reg_congr {s t : State} (ha : t.a = s.a) (hb : t.b = s.b) (hc : t.c = s.c) (hd : t.d = s.d)
    (he : t.e = s.e) (hh : t.h = s.h) (hl : t.l = s.l) (r : Reg8) : t.reg r = s.reg r := by
  cases r <;> assumption

@[simp] theorem State.reg_memRead (x : Word) (s : State) (P : Params) (r : Reg8) :
    (s.memRead x P).2.reg r = s.reg r := State.reg_congr rfl rfl rfl rfl rfl rfl rfl r

@[simp] theorem State.reg_memWrite (x : Word) (v : Byte) (s : State) (P : Params) (r : Reg8) :
    (s.memWrite x v P).reg r = s.reg r := State.reg_congr rfl rfl rfl rfl rfl rfl rfl r

@[simp] theorem State.reg_push16 (w : Word) (s : State) (P : Params) (r : Reg8) :
    (s.push16 w P).reg r = s.reg r := by cases r <;> simp [State.reg]

@[simp] theorem State.reg_pop16 (s : State) (P : Params) (r : Reg8) :
    (s.pop16 P).2.reg r = s.reg r := by cases r <;> simp [State.reg]

@[simp] theorem State.reg_returnFromInterrupt (s : State) (P : Params) (r : Reg8) :
    (s.returnFromInterrupt P).reg r = s.reg r := by cases r <;> simp [State.reg]

@[simp] theorem State.reg_setF (v : Byte) (s : State) (r : Reg8) :
    (s.setF v).reg r = s.reg r := State.reg_congr rfl rfl rfl rfl rfl rfl rfl r

@[simp] theorem State.reg_writeZNH (z n h : Bool) (s : State) (r : Reg8) :
    (s.writeZNH z n h).reg r = s.reg r := by cases r <;> simp [State.reg]

@[simp] theorem State.reg_writeZNHC (z n h c : Bool) (s : State) (r : Reg8) :
    (s.writeZNHC z n h c).reg r = s.reg r := by cases r <;> simp [State.reg]

/-- A pair write leaves every register that is none of the pair's (R32). -/
theorem State.reg_setPair {p : Pair} {r : Reg8} (hr : r ∉ p.regs) (w : Word) (s : State) :
    (s.setPair p w).reg r = s.reg r := by
  cases p with
  | bc => simp_all [Pair.regs, show s.setPair .bc w = (s.setReg .b (hi8 w)).setReg .c (lo8 w) from rfl]
  | de => simp_all [Pair.regs, show s.setPair .de w = (s.setReg .d (hi8 w)).setReg .e (lo8 w) from rfl]
  | hl => simp_all [Pair.regs, show s.setPair .hl w = (s.setReg .h (hi8 w)).setReg .l (lo8 w) from rfl]
  | af => simp_all [Pair.regs, show s.setPair .af w = (s.setReg .a (hi8 w)).setF (lo8 w) from rfl]

theorem State.reg_setReg16 {rr : Reg16} {r : Reg8} (hr : r ∉ rr.regs) (w : Word) (s : State) :
    (s.setReg16 rr w).reg r = s.reg r := by
  cases rr with
  | bc => exact State.reg_setPair (p := .bc) hr w s
  | de => exact State.reg_setPair (p := .de) hr w s
  | hl => exact State.reg_setPair (p := .hl) hr w s
  | sp => exact State.reg_congr rfl rfl rfl rfl rfl rfl rfl r

theorem State.setReg16_sp {rr : Reg16} (hr : rr.isSp = false) (w : Word) (s : State) :
    (s.setReg16 rr w).sp = s.sp := by
  cases rr with
  | sp => cases hr
  | _ => rfl

/-- The ALU writes no register but A, and CP not even that (R153). -/
theorem State.reg_alu {op : AluOp} {r : Reg8} (hr : r ∉ op.dest) (v : Byte) (s : State) :
    (s.alu op v).reg r = s.reg r := by
  cases op with
  | add | sub => cases r <;> simp_all [AluOp.dest, State.alu, State.reg]
  | cp => simp [State.alu]

end Sys2Proof.Machine

namespace Sys2Proof

open Machine

/-! ## The frame of a format -/

/-- Only the destinations of a format change (R31). -/
theorem Form.after_reg (f : Form) (s : State) (P : Params) {r : Reg8} (hr : r ∉ f.dest) :
    (f.after s P).reg r = s.reg r := by
  cases f with
  | ldRrD16 | incRr | decRr => exact State.reg_setReg16 hr _ s
  | aluR | aluD8 => exact State.reg_alu hr _ s
  | aluHl op => exact (State.reg_alu hr _ _).trans (State.reg_memRead _ s P r)
  | pop p => exact (State.reg_setPair hr _ _).trans (State.reg_pop16 s P r)
  | jr | jrCc | di | ei => exact State.reg_congr rfl rfl rfl rfl rfl rfl rfl r
  | ret | call => cases r <;> simp [Form.after, State.reg]
  | _ => simp_all [Form.after, Form.dest]

theorem Form.after_acc (f : Form) (s : State) (P : Params) : (f.after s P).acc = s.acc := by
  cases f <;> simp [Form.after]

/-- Only the formats of R39 move SP. -/
theorem Form.after_sp (f : Form) (s : State) (P : Params) (hf : f.mayMoveSp = false) :
    (f.after s P).sp = s.sp := by
  cases f with
  | call | ret | reti | push | pop => cases hf
  | ldRrD16 rr | incRr rr | decRr rr => exact State.setReg16_sp hf _ s
  | _ => simp [Form.after]

/-- Only the formats of R38 transfer control. -/
theorem Form.after_pc (f : Form) (s : State) (P : Params) (hf : f.setsPc = false) :
    (f.after s P).pc = s.pc := by
  cases f with
  | jr | jrCc | call | ret | reti => cases hf
  | _ => simp [Form.after]

/-- Only DI, EI and RETI write IME or EI_DELAY (R40, R41). -/
theorem Form.after_ime (f : Form) (s : State) (P : Params) (hf : f.writesIme = false) :
    (f.after s P).ime = s.ime ∧ (f.after s P).eiDelay = s.eiDelay := by
  cases f with
  | di | ei | reti => cases hf
  | _ => simp [Form.after]

/-- Every format keeps what `MEM` keeps. -/
theorem Form.after_keeps {P : Params} {I : Memory → Prop} {s : State} (hM : P.mem.Keeps I) (h : I s.mem) (f : Form) :
    I (f.after s P).mem := by
  have hload (x : Word) : I (P.mem.read s.mem x).2 := hM.1 _ x h
  have hstore (x : Word) (v : Byte) : I (P.mem.write s.mem x v) := hM.2 _ x v h
  cases f with
  | push | call => simpa [Form.after] using hM.2 _ _ _ (hstore _ _)
  | pop | ret | reti => simpa [Form.after] using hM.1 _ _ (hload _)
  | cbRotHl => simpa [Form.after] using hM.2 _ _ _ (hload _)
  | _ => simp_all [Form.after]

end Sys2Proof
end

section
/-! The flag table (R36) and the low nibble of F (R33), for every format. -/

namespace Sys2Proof.Machine

/-! ## Flags -/

/-- Flags are bits of F, so a state with the same F has the same flags. -/
theorem State.flags_congr {s t : State} (h : t.f = s.f) :
    t.flagZ = s.flagZ ∧ t.flagN = s.flagN ∧ t.flagH = s.flagH ∧ t.flagC = s.flagC := by
  simp [State.flagZ_eq, State.flagN_eq, State.flagH_eq, State.flagC_eq, h]

@[simp] theorem State.setReg_flagC (r : Reg8) (v : Byte) (s : State) : (s.setReg r v).flagC = s.flagC := by
  simp [State.flagC_eq]

@[simp] theorem State.memRead_flagC (x : Word) (s : State) (P : Params) : (s.memRead x P).2.flagC = s.flagC := rfl

/-- The ALU writes all four flags: N says whether it subtracts (R145, R146). -/
theorem State.alu_f (op : AluOp) (v : Byte) (s : State) :
    ∃ z h c, (s.alu op v).f = flagByte z (op != .add) h c := by
  cases op with
  | add | sub | cp => exact ⟨_, _, _, State.writeZNHC_f ..⟩

/-- What a row of the table says of the states before and after: each flag by its entry, and F as a whole is left
where no flag is written. -/
def FlagRow.allows (row : FlagRow) (s t : State) : Prop :=
  row.z.allows s.flagZ t.flagZ ∧ row.n.allows s.flagN t.flagN ∧ row.h.allows s.flagH t.flagH ∧
    row.c.allows s.flagC t.flagC ∧ (row = ⟨.kept, .kept, .kept, .kept⟩ → t.f = s.f)

/-- F unchanged satisfies the row of a format that writes no flag. -/
theorem FlagRow.allows_of_f_eq {s t : State} (h : t.f = s.f) :
    FlagRow.allows ⟨.kept, .kept, .kept, .kept⟩ s t :=
  have ⟨hz, hn, hh, hc⟩ := State.flags_congr h
  ⟨hz, hn, hh, hc, fun _ => h⟩

/-- F written as four flags satisfies a row when each flag satisfies its entry. -/
theorem FlagRow.allows_of_flagByte {row : FlagRow} {s t : State} {z n h c : Bool} (e : t.f = flagByte z n h c)
    (hz : row.z.allows s.flagZ z) (hn : row.n.allows s.flagN n) (hh : row.h.allows s.flagH h)
    (hc : row.c.allows s.flagC c) (hrow : row.n ≠ .kept) : row.allows s t := by
  refine ⟨?_, ?_, ?_, ?_, fun hk => absurd (hk ▸ rfl) hrow⟩
  · rwa [State.flagZ_of_f e]
  · rwa [State.flagN_of_f e]
  · rwa [State.flagH_of_f e]
  · rwa [State.flagC_of_f e]

/-- The ALU writes the flags as its operation's row says (R36), whatever they were before. -/
theorem State.alu_flags (op : AluOp) (v : Byte) (s u : State) : op.flagRow.allows s (u.alu op v) := by
  obtain ⟨z, h, c, e⟩ := u.alu_f op v
  cases op with
  | add | sub | cp => exact FlagRow.allows_of_flagByte e trivial rfl trivial trivial nofun

end Sys2Proof.Machine

namespace Sys2Proof

open Machine

/-- Every format writes the flags as its row says (R36). -/
theorem Form.after_flags (f : Form) (s : State) (P : Params) : f.flagRow.allows s (f.after s P) := by
  cases f with
  | incR | decR =>
    exact FlagRow.allows_of_flagByte (State.writeZNH_f ..) trivial rfl trivial (State.setReg_flagC ..) nofun
  | cbBitR | cbBitHl => exact FlagRow.allows_of_flagByte (State.writeZNH_f ..) trivial rfl rfl rfl nofun
  | rotA => exact FlagRow.allows_of_flagByte (State.writeZNHC_f ..) rfl rfl rfl trivial nofun
  | cbRotR | cbRotHl => exact FlagRow.allows_of_flagByte (State.writeZNHC_f ..) trivial rfl rfl trivial nofun
  | aluR op | aluHl op | aluD8 op => exact State.alu_flags op _ s _
  | pop p =>
    cases p with
    | af => exact ⟨trivial, trivial, trivial, trivial, fun hk => absurd hk (by decide)⟩
    | bc | de | hl => exact FlagRow.allows_of_f_eq rfl
  | _ => exact FlagRow.allows_of_f_eq (by simp [Form.after])

/-- Every format keeps F's low nibble 0 (R33): it leaves F, or writes four flags or through the masking port. -/
theorem Form.after_f_low (f : Form) (s : State) (P : Params) (h : s.f &&& 0x0F#8 = 0#8) :
    (f.after s P).f &&& 0x0F#8 = 0#8 := by
  cases f with
  | aluR op | aluHl op | aluD8 op =>
    obtain ⟨_, _, _, e⟩ := State.alu_f op _ _
    exact e ▸ flagByte_low ..
  | pop p =>
    cases p with
    | af => simp [Form.after, State.setPair, BitVec.and_assoc]
    | bc | de | hl => exact h
  | _ => simp [Form.after, flagByte_low, h]

end Sys2Proof
end

section
/-! The statements on every format: what `exec` and `execForm` leave, from `Form.after` of the format's entry. -/

namespace Sys2Proof.Machine

section Frame

variable {f : Form} {s t : State} {P : Params}

theorem execForm_reg (h : execForm f s P = .next t) {r : Reg8} (hr : r ∉ f.entry.dest) : t.reg r = s.reg r := by
  obtain ⟨n, rfl⟩ := execForm_next h
  exact f.entry.after_reg s P hr

theorem execForm_flags (h : execForm f s P = .next t) : f.entry.flagRow.allows s t := by
  obtain ⟨n, rfl⟩ := execForm_next h
  exact f.entry.after_flags s P

theorem execForm_f_low (h : execForm f s P = .next t) (hs : s.f &&& 0x0F#8 = 0#8) : t.f &&& 0x0F#8 = 0#8 := by
  obtain ⟨n, rfl⟩ := execForm_next h
  exact f.entry.after_f_low s P hs

theorem execForm_sp (h : execForm f s P = .next t) (hf : f.entry.mayMoveSp = false) : t.sp = s.sp := by
  obtain ⟨n, rfl⟩ := execForm_next h
  exact f.entry.after_sp s P hf

theorem execForm_pc (h : execForm f s P = .next t) (hf : f.entry.setsPc = false) : t.pc = s.pc := by
  obtain ⟨n, rfl⟩ := execForm_next h
  exact f.entry.after_pc s P hf

theorem execForm_ime (h : execForm f s P = .next t) (hf : f.entry.writesIme = false) :
    t.ime = s.ime ∧ t.eiDelay = s.eiDelay := by
  obtain ⟨n, rfl⟩ := execForm_next h
  exact f.entry.after_ime s P hf

theorem execForm_acc (h : execForm f s P = .next t) : t.acc = s.acc := by
  obtain ⟨n, rfl⟩ := execForm_next h
  exact f.entry.after_acc s P

theorem execForm_keeps {I : Memory → Prop} (hM : P.mem.Keeps I) (h : execForm f s P = .next t) (hs : I s.mem) :
    I t.mem := by
  obtain ⟨n, rfl⟩ := execForm_next h
  exact f.entry.after_keeps hM hs

end Frame

/-- What holds of the execute phase of every format holds of every instruction of `exec`. -/
theorem exec_of_execForm {frame : Form → State → State → Prop}
    (h : ∀ (P : Params) (f : Form) (s t : State), execForm f s P = .next t → frame f s t) :
    (∀ (i : Instr) (s t : State), exec i s = .next t → frame i.form s t) ∧
      ∀ (P : Params) (f : Form) (s t : State), execForm f s P = .next t → frame f s t :=
  ⟨fun i s t hi => h _ _ s t (exec_eq_execForm i s ▸ hi), h⟩

/-- Settles O48, by the row of each format (`Form.after_flags`). -/
theorem flagsAreWrittenAsTheTableSays : Obligations.FlagsAreWrittenAsTheTableSays := by
  unfold Obligations.FlagsAreWrittenAsTheTableSays
  intro frame
  exact exec_of_execForm fun _ _ _ _ h => execForm_flags h

/-- Settles O49, by the destinations of each format (`Form.after_reg`). -/
theorem onlyDestinationRegistersChange : Obligations.OnlyDestinationRegistersChange := by
  unfold Obligations.OnlyDestinationRegistersChange
  intro frame
  exact exec_of_execForm fun _ _ _ _ h _ hr => execForm_reg h hr

/-- Settles O51, by the writers of SP, PC, IME and EI_DELAY among the formats. -/
theorem specialStateChangesOnlyByItsWriters : Obligations.SpecialStateChangesOnlyByItsWriters := by
  unfold Obligations.SpecialStateChangesOnlyByItsWriters
  intro frame
  exact exec_of_execForm fun _ _ _ _ h => ⟨execForm_sp h, execForm_pc h, execForm_ime h, execForm_acc h⟩

end Sys2Proof.Machine
end

section
/-! The invariant of R49 at reset, over a step and along a run. -/

namespace Sys2Proof.Machine

/-! ## What fetch leaves, and how a step ends -/

@[simp] theorem State.fetchInstr_f (s : State) (P : Params) : (s.fetchInstr P).2.f = s.f := by
  obtain ⟨-, w, m, l, e, -⟩ := s.fetchInstr_any P
  rw [e]

@[simp] theorem State.fetchInstr_sp (s : State) (P : Params) : (s.fetchInstr P).2.sp = s.sp := by
  obtain ⟨-, w, m, l, e, -⟩ := s.fetchInstr_any P
  rw [e]

@[simp] theorem State.fetchInstr_ime (s : State) (P : Params) : (s.fetchInstr P).2.ime = s.ime := by
  obtain ⟨-, w, m, l, e, -⟩ := s.fetchInstr_any P
  rw [e]

@[simp] theorem State.fetchInstr_eiDelay (s : State) (P : Params) : (s.fetchInstr P).2.eiDelay = s.eiDelay := by
  obtain ⟨-, w, m, l, e, -⟩ := s.fetchInstr_any P
  rw [e]

/-- What phases 3 to 5 do to SP, IME and EI_DELAY: they count the EI delay, and after it a dispatch may end the step. -/
theorem State.endOfStep_cases (s : State) (P : Params) :
    ((s.endOfStep P).sp = s.sp ∧ (s.endOfStep P).ime = (s.ime || s.eiDelay == 1) ∧
      (s.endOfStep P).eiDelay = if s.eiDelay = 2 then 1 else 0) ∨
    ((s.endOfStep P).sp = s.sp - 2#16 ∧ (s.endOfStep P).ime = false ∧ (s.endOfStep P).eiDelay = 0 ∧
      ∃ i, (s.endOfStep P).pc = P.vec i) := by
  unfold State.endOfStep
  obtain ⟨-, e⟩ | ⟨-, -, e⟩ | ⟨-, i, -, e⟩ :=
    (s.charge s.tcycles P).eiDelayTick.interruptCheck_cases P <;> rw [e]
  · exact .inl (by simp)
  · exact .inl (by simp)
  · exact .inr ⟨by simp [word_sub_two], by simp, by simp, i, by simp⟩

/-- EI_DELAY is 0 or 1 between steps, whatever it was (R41). -/
theorem State.endOfStep_eiDelay_ne_two (s : State) (P : Params) : (s.endOfStep P).eiDelay ≠ 2 := by
  obtain ⟨-, -, e⟩ | ⟨-, -, e, -⟩ := s.endOfStep_cases P
  · rw [e]; split <;> decide
  · rw [e]; decide

/-- A step that answers a next state executed the fetched instruction and ended. -/
theorem stepWith_next {s t : State} {P : Params} (h : stepWith s P = .next t) :
    ∃ u, execForm (s.beginStep.fetchInstr P).1.form (s.beginStep.fetchInstr P).2 P = .next u ∧
      t = u.endOfStep P := by
  simp only [stepWith] at h
  split at h
  next u hu => exact ⟨u, hu, by simpa using h.symm⟩
  next => cases h
  next => cases h

/-! ## The invariant -/

theorem State.resetWith_invWith {I : Memory → Prop} (ime : Bool) {m : Memory} (hm : I m) :
    (State.resetWith ime m).InvWith I :=
  ⟨BitVec.zero_and, show (0 : Fin 3) ≠ 2 by decide, hm⟩

/-- A step keeps F's low nibble by its instruction, EI_DELAY by its end, and what `MEM` keeps throughout. -/
theorem stepWith_invWith {P : Params} {I : Memory → Prop} (hM : P.mem.Keeps I) {s t : State} (hs : s.InvWith I)
    (h : stepWith s P = .next t) : t.InvWith I := by
  obtain ⟨hf, -, hm⟩ := hs
  obtain ⟨u, hu, rfl⟩ := stepWith_next h
  refine ⟨?_, u.endOfStep_eiDelay_ne_two P, ?_⟩
  · rw [State.endOfStep_f]
    exact execForm_f_low hu (by simpa using hf)
  · exact State.endOfStep_keeps hM (execForm_keeps hM hu (State.fetchInstr_keeps hM hm))

/-- Every state of a run meets the invariant when memory starts with the property, and `MEM` and `ENV` keep it. -/
theorem Reachable.invWith {P : Params} {I : Memory → Prop} (hM : P.mem.Keeps I) (hinit : I P.memInit)
    (henv : ∀ m n, I m → P.env m n → I n) {s : State} (hs : Reachable P s) : s.InvWith I := by
  induction hs with
  | reset => exact State.resetWith_invWith _ hinit
  | step _ h ih => exact stepWith_invWith hM ih h
  | env m _ h ih =>
    obtain ⟨hf, hd, hm⟩ := ih
    exact ⟨hf, hd, henv _ m hm h⟩

/-- Settles O10, by `stepWith_invWith`; `step` is the step at the defaults, whose flat memory keeps the canonical
form. -/
theorem stepKeepsInvariant : Obligations.StepKeepsInvariant :=
  ⟨fun s _ hs h => stepWith_invWith Mem.flat_keeps_wf hs (step_eq_stepWith s ▸ h),
    fun _ _ hM _ _ hs h => stepWith_invWith hM hs h⟩

/-- Settles O11, by induction on the run. -/
theorem everyReachableStateMeetsInvariant : Obligations.EveryReachableStateMeetsInvariant :=
  ⟨fun _ _ hm _ hs => hs.invWith Mem.flat_keeps_wf hm fun _ _ _ h => h,
    fun _ _ hM hinit henv _ hs => hs.invWith hM hinit henv⟩

/-- Settles O9: reset clears F and EI_DELAY and leaves memory as it finds it. -/
theorem resetMeetsInvariant : Obligations.ResetMeetsInvariant :=
  ⟨fun ime _ hm => State.resetWith_invWith ime hm, State.resetWith_invWith _ State.reset_mem_wf,
    fun P _ hinit => State.resetWith_invWith P.imeReset hinit⟩

end Sys2Proof.Machine
end

section
/-! SP and IME over whole steps (R39, R40). -/

namespace Sys2Proof.Machine

/-! ## The three writers of IME -/

/-- Only DI, EI and RETI have a format that writes IME or EI_DELAY. -/
theorem instr_of_writesIme {i : Instr} (h : i.form.writesIme = true) : i = .di ∨ i = .ei ∨ i = .reti := by
  cases i <;> cases h
  case reti => exact .inr (.inr rfl)
  case di => exact .inl rfl
  case ei => exact .inr (.inl rfl)

section Writers

variable {s t : State} {P : Params}

theorem execForm_di (h : execForm .di s P = .next t) : t.ime = false ∧ t.eiDelay = 0 := by
  obtain ⟨n, rfl⟩ := execForm_next h
  exact ⟨rfl, rfl⟩

/-- EI does not write IME, and a pending EI is not restarted (R201, D12). -/
theorem execForm_ei (h : execForm .ei s P = .next t) :
    t.ime = s.ime ∧ t.eiDelay = if s.eiDelay = 0 then 2 else s.eiDelay := by
  obtain ⟨n, rfl⟩ := execForm_next h
  exact ⟨rfl, rfl⟩

theorem execForm_reti (h : execForm .reti s P = .next t) : t.ime = true ∧ t.eiDelay = 0 := by
  obtain ⟨n, rfl⟩ := execForm_next h
  exact ⟨rfl, rfl⟩

/-- With the flat memory the instruction a step executes is the one whose bytes stand at PC. -/
theorem stepWith_next_flat (hP : P.mem = Mem.flat) (h : stepWith s P = .next t) :
    ∃ u, execForm s.instrAtPc.form (s.beginStep.fetchInstr P).2 P = .next u ∧ t = u.endOfStep P := by
  have hi : (s.beginStep.fetchInstr P).1 = s.instrAtPc := by rw [State.fetchInstr_eq _ hP]; rfl
  simpa only [hi] using stepWith_next h

/-- IME rises only by RETI or by an EI that was pending. -/
theorem stepWith_ime_rises (hP : P.mem = Mem.flat) (h : stepWith s P = .next t) (hs : s.ime = false)
    (ht : t.ime = true) : s.instrAtPc = .reti ∨ s.eiDelay = 1 := by
  obtain ⟨u, hu, rfl⟩ := stepWith_next_flat hP h
  obtain ⟨-, hime, -⟩ | ⟨-, hime, -, -⟩ := u.endOfStep_cases P
  case inr => simp [hime] at ht
  have hpending : u.ime = true ∨ u.eiDelay = 1 := by simpa [hime] using ht
  cases hw : s.instrAtPc.form.writesIme with
  | false =>
    obtain ⟨hui, hud⟩ := execForm_ime hu (by simpa using hw)
    exact .inr (by simpa [hui, hud, hs] using hpending)
  | true =>
    obtain hi | hi | hi := instr_of_writesIme hw
    · rw [hi] at hu
      obtain ⟨hui, hud⟩ := execForm_di hu
      simp [hui, hud] at hpending
    · rw [hi] at hu
      obtain ⟨hui, hud⟩ := execForm_ei hu
      refine .inr ?_
      by_cases hd : s.eiDelay = 0
      · simp [hui, hud, hs, hd] at hpending
      · simpa [hui, hud, hs, hd] using hpending
    · exact .inl hi

/-- IME falls only by DI or by a dispatch. -/
theorem stepWith_ime_falls (hP : P.mem = Mem.flat) (h : stepWith s P = .next t) (hs : s.ime = true)
    (ht : t.ime = false) : s.instrAtPc = .di ∨ ∃ (u : State) (i : Source),
      execForm s.instrAtPc.form (s.beginStep.fetchInstr P).2 P = .next u ∧
        t.pc = P.vec i ∧ t.sp = u.sp - 2#16 ∧ t.eiDelay = 0 := by
  obtain ⟨u, hu, rfl⟩ := stepWith_next_flat hP h
  obtain ⟨-, hime, -⟩ | ⟨hsp, -, hdelay, i, hpc⟩ := u.endOfStep_cases P
  case inr => exact .inr ⟨u, i, hu, hpc, hsp, hdelay⟩
  have hfell : u.ime = false := by simp_all
  cases hw : s.instrAtPc.form.writesIme with
  | false =>
    obtain ⟨hui, -⟩ := execForm_ime hu (by simpa using hw)
    simp [hui, hs] at hfell
  | true =>
    obtain hi | hi | hi := instr_of_writesIme hw
    · exact .inl hi
    · rw [hi] at hu
      simp [(execForm_ei hu).1, hs] at hfell
    · rw [hi] at hu
      simp [(execForm_reti hu).1] at hfell

/-- SP changes only by a format that moves it or by a dispatch. -/
theorem stepWith_sp (hP : P.mem = Mem.flat) (h : stepWith s P = .next t) (hne : t.sp ≠ s.sp) :
    s.instrAtPc.form.mayMoveSp = true ∨ ∃ i : Source, t.pc = P.vec i ∧ t.ime = false ∧ t.sp = s.sp - 2#16 := by
  obtain ⟨u, hu, rfl⟩ := stepWith_next_flat hP h
  cases hw : s.instrAtPc.form.mayMoveSp with
  | true => exact .inl rfl
  | false =>
    have husp : u.sp = s.sp := by simpa using execForm_sp hu (by simpa using hw)
    obtain ⟨hsp, -, -⟩ | ⟨hsp, hime, -, i, hpc⟩ := u.endOfStep_cases P
    · exact absurd (hsp.trans husp) hne
    · exact .inr ⟨i, hpc, hime, husp ▸ hsp⟩

end Writers

/-- Settles O57, by what the end of the step and the three writers of IME do. -/
theorem imeChangesOnlyByItsWriters : Obligations.ImeChangesOnlyByItsWriters := by
  unfold Obligations.ImeChangesOnlyByItsWriters
  intro rule
  have hwith (P : Params) (hP : P.mem = Mem.flat) :
      rule P (fun i s => execForm i.form s P) (fun s => stepWith s P) :=
    fun _ _ h => ⟨stepWith_ime_rises hP h, stepWith_ime_falls hP h⟩
  have hexec : exec = fun i s => execForm i.form s Params.default := funext₂ exec_eq_execForm
  have hstep : step = fun s => stepWith s Params.default := funext step_eq_stepWith
  exact ⟨by rw [hexec, hstep]; exact hwith _ rfl, hwith⟩

/-- Settles O60, by what the end of the step and the formats do to SP. -/
theorem spMovesOnlyByItsWriters : Obligations.SpMovesOnlyByItsWriters :=
  ⟨fun s _ h => stepWith_sp rfl (step_eq_stepWith s ▸ h), fun _ hP _ _ h => stepWith_sp hP h⟩

end Sys2Proof.Machine
end

section
/-! Reset, the operand registers, the pairs and the flag primitives (R30 to R35, R47). -/

namespace Sys2Proof.Machine

/-- Settles O8: reset is one literal state but for IME_RESET and the memory. -/
theorem resetValues : Obligations.ResetValues := by
  unfold Obligations.ResetValues
  refine ⟨fun ime m => ⟨fun r => ?_, rfl, rfl, rfl, rfl, rfl, rfl, rfl, rfl⟩, fun _ => rfl, rfl, rfl⟩
  cases r <;> rfl

/-- A register write changes none but the seven register fields. -/
theorem State.setReg_eq_with (r : Reg8) (v : Byte) (s : State) :
    ∃ x y z w u k n, s.setReg r v = { s with a := x, b := y, c := z, d := w, e := u, h := k, l := n } := by
  cases r <;> exact ⟨_, _, _, _, _, _, _, rfl⟩

/-- Settles O14, by the law of a register read after a register write. -/
theorem registerWritesAreIndependent : Obligations.RegisterWritesAreIndependent := by
  unfold Obligations.RegisterWritesAreIndependent
  intro r v s
  exact ⟨by simp, fun q hq => by simp [hq], s.setReg_eq_with r v⟩

theorem hi8_eq_ofNat (w : Word) : hi8 w = BitVec.ofNat 8 (w.toNat / 256) := by
  apply BitVec.eq_of_toNat_eq
  have := w.isLt
  rw [hi8_toNat, BitVec.toNat_ofNat]
  omega

theorem lo8_eq_ofNat (w : Word) : lo8 w = BitVec.ofNat 8 (w.toNat % 256) := by
  apply BitVec.eq_of_toNat_eq
  rw [lo8_toNat, BitVec.toNat_ofNat]
  omega

/-- The mask of F's write port keeps a byte whose low nibble is 0 (R33). -/
theorem and_high_of_low {x : Byte} : x &&& 0x0F#8 = 0#8 → x &&& 0xF0#8 = x := by
  revert x; decide

/-- A pair read and written back changes nothing, F meeting R33. -/
theorem State.setPair_pair {s : State} (hf : s.f &&& 0x0F#8 = 0#8) (p : Pair) : s.setPair p (s.pair p) = s := by
  cases p with
  | af => simp [State.setPair, State.pair, State.setF, and_high_of_low hf]
  | bc | de | hl => simp [State.setPair, State.pair]

/-- Settles O15: the high byte is the quotient by 256, the low byte the remainder. -/
theorem pairsAreTwoRegisters : Obligations.PairsAreTwoRegisters := by
  unfold Obligations.PairsAreTwoRegisters
  intro s w
  rw [← hi8_eq_ofNat, ← lo8_eq_ofNat]
  exact ⟨join16_toNat .., join16_toNat .., join16_toNat .., join16_toNat .., rfl, rfl, rfl, rfl,
    fun p hf => State.setPair_pair hf p⟩

/-- `test_flags` asks for all bits of the mask, not any (R35). -/
theorem State.testFlags_iff (s : State) (m : Byte) :
    s.testFlags m = true ↔ ∀ k, m.getLsbD k = true → s.f.getLsbD k = true := by
  rw [State.testFlags, beq_iff_eq, BitVec.eq_of_getLsbD_eq_iff]
  simp only [BitVec.getLsbD_and, Bool.and_eq_right_iff_imp]
  exact ⟨fun h k hk => h k (BitVec.lt_of_getLsbD hk) hk, fun h k _ => h k⟩

/-- Settles O16: the masks and F lie in the high nibble, which F's write port keeps. -/
theorem flagPrimitives : Obligations.FlagPrimitives := by
  unfold Obligations.FlagPrimitives
  intro s m hf hm
  have hset : (s.f ||| m) &&& 0x0F#8 = 0#8 := by rw [BitVec.and_or_distrib_right, hf, hm]; rfl
  have hreset : (s.f &&& ~~~m) &&& 0x0F#8 = 0#8 := by
    rw [BitVec.and_assoc, BitVec.and_comm (~~~m), ← BitVec.and_assoc, hf, BitVec.zero_and]
  refine ⟨?_, ?_, s.testFlags_iff m, rfl, rfl, s.flagZ_eq, s.flagN_eq, s.flagH_eq, s.flagC_eq⟩
  · simp [State.setFlags, State.setF, and_high_of_low hset]
  · simp [State.resetFlags, State.setF, and_high_of_low hreset]

end Sys2Proof.Machine
end

section
/-! The flat memory as data and its reads (R60, R61), a fetch and the stack as transactions (R64 to R67). -/

namespace Sys2Proof.Machine

/-! ## The canonical form -/

/-- The canonical form, read off its first cell. -/
theorem Memory.wfFrom_cons_iff {lo k : Nat} {v : Byte} {m : Memory} : Memory.wfFrom lo ((k, v) :: m) = true ↔
    lo ≤ k ∧ k < 65536 ∧ v ≠ Config.unlistedByte ∧ Memory.wfFrom (k + 1) m = true := by
  simp [Memory.wfFrom, and_assoc]

theorem Memory.lookup_head (k : Nat) (v : Byte) (m : Memory) : Memory.lookup k ((k, v) :: m) = v := if_pos rfl

theorem Memory.lookup_tail {j k : Nat} (h : j ≠ k) (v : Byte) (m : Memory) :
    Memory.lookup k ((j, v) :: m) = m.lookup k := if_neg h

/-- The first cell of a canonical memory has the least address that reads as anything but an unlisted byte. -/
theorem Memory.head_le_of_lookup_ne {lo j k : Nat} {w : Byte} {m : Memory}
    (h : Memory.wfFrom lo ((j, w) :: m) = true) (hk : Memory.lookup k ((j, w) :: m) ≠ Config.unlistedByte) : j ≤ k := by
  obtain ⟨-, hj, hw, hm⟩ := Memory.wfFrom_cons_iff.mp h
  by_contra hlt
  exact hk (Memory.lookup_lt (Nat.lt_of_not_le hlt) (Memory.wfFrom_cons_iff.mpr ⟨le_rfl, hj, hw, hm⟩))

/-- Canonical memories that read alike have the same first cell, and so on along the list. -/
theorem Memory.eq_of_lookup_eq {lo : Nat} {m n : Memory} (hm : Memory.wfFrom lo m = true)
    (hn : Memory.wfFrom lo n = true) (h : ∀ k < 65536, m.lookup k = n.lookup k) : m = n := by
  induction m generalizing lo n with
  | nil =>
    cases n with
    | nil => rfl
    | cons c n =>
      obtain ⟨j, w⟩ := c
      obtain ⟨-, hj, hw, -⟩ := Memory.wfFrom_cons_iff.mp hn
      exact absurd ((h j hj).trans (Memory.lookup_head j w n)).symm hw
  | cons c m ih =>
    obtain ⟨i, v⟩ := c
    obtain ⟨-, hi, hv, hm'⟩ := Memory.wfFrom_cons_iff.mp hm
    have hmi := Memory.lookup_head i v m
    cases n with
    | nil => exact absurd (hmi.symm.trans (h i hi)) hv
    | cons c n =>
      obtain ⟨j, w⟩ := c
      obtain ⟨-, hj, hw, hn'⟩ := Memory.wfFrom_cons_iff.mp hn
      have hnj := Memory.lookup_head j w n
      have hij : i = j := le_antisymm
        (Memory.head_le_of_lookup_ne hm (by rwa [h j hj, hnj]))
        (Memory.head_le_of_lookup_ne hn (by rwa [← h i hi, hmi]))
      subst hij
      have hvw : v = w := hmi.symm.trans ((h i hi).trans hnj)
      have htail : ∀ k < 65536, Memory.lookup k m = Memory.lookup k n := by
        intro k hk
        by_cases hik : i = k
        · subst hik
          rw [Memory.lookup_lt (Nat.lt_succ_self i) hm', Memory.lookup_lt (Nat.lt_succ_self i) hn']
        · rw [← Memory.lookup_tail hik v m, h k hk, Memory.lookup_tail hik]
      rw [hvw, ih hm' hn' htail]

/-- Settles O12, by the canonical form: the cells are determined in order of address. -/
theorem memoriesThatReadAlikeAreEqual : Obligations.MemoriesThatReadAlikeAreEqual := by
  unfold Obligations.MemoriesThatReadAlikeAreEqual
  intro m n hm hn h
  refine Memory.eq_of_lookup_eq hm hn fun k hk => ?_
  simpa [Memory.read, Nat.mod_eq_of_lt hk] using h (BitVec.ofNat 16 k)

/-- Settles O13, by the laws of the flat memory. -/
theorem readAfterWrite : Obligations.ReadAfterWrite :=
  ⟨fun _ a v hm => ⟨Memory.wf_write hm a v, Memory.read_write_self hm a v, fun _ hb => Memory.read_write_ne hm hb v⟩,
    fun _ _ _ => ⟨rfl, rfl⟩⟩

/-! ## Fetch -/

/-- Everything a one-byte fetch does (R64). -/
theorem State.fetch8_eq (s : State) (P : Params) : s.fetch8 P =
    ((P.mem.read s.mem s.pc).1, { s with
      pc := s.pc + 1#16
      mem := (P.mem.read s.mem s.pc).2
      port := s.port ++ [.read s.pc (P.mem.read s.mem s.pc).1] }) := rfl

/-- Everything a two-byte fetch does (R65). -/
theorem State.fetch16_eq (s : State) (P : Params) : s.fetch16 P =
    (join16 (P.mem.read (P.mem.read s.mem s.pc).2 (s.pc + 1#16)).1 (P.mem.read s.mem s.pc).1, { s with
      pc := s.pc + 2#16
      mem := (P.mem.read (P.mem.read s.mem s.pc).2 (s.pc + 1#16)).2
      port := s.port ++ [.read s.pc (P.mem.read s.mem s.pc).1,
        .read (s.pc + 1#16) (P.mem.read (P.mem.read s.mem s.pc).2 (s.pc + 1#16)).1] }) := by
  simp [State.fetch16, State.fetch8_eq, word_add_two]

/-- Settles O17, by what the two fetches do. -/
theorem fetch16ReadsLowByteFirst : Obligations.Fetch16ReadsLowByteFirst := by
  unfold Obligations.Fetch16ReadsLowByteFirst
  intro P s lo hi
  rw [State.fetch16_eq]
  exact ⟨State.fetch8_eq s P, join16_toNat .., rfl, by decide⟩

/-! ## The stack -/

theorem word_sub_two_add_one (w : Word) : w - 2#16 + 1#16 = w - 1#16 := by bv_omega

theorem word_sub_two_add_two (w : Word) : w - 2#16 + 2#16 = w := BitVec.sub_add_cancel w 2#16

section Pushed

variable (w : Word) {s : State} {P : Params} (hP : P.mem = Mem.flat) (hs : s.mem.wf = true)

include hP hs

/-- The flat memory after a push (R66): the low byte, above it the high byte, and the rest as it was. -/
theorem State.push16_read (a : Word) : (s.push16 w P).mem.read a =
    if a = s.sp - 2#16 then lo8 w else if a = s.sp - 1#16 then hi8 w else s.mem.read a := by
  simp only [State.push16_eq, hP, Mem.flat_write, Memory.read_write (Memory.wf_write hs _ _), Memory.read_write hs]

theorem State.push16_read_low : (s.push16 w P).mem.read (s.sp - 2#16) = lo8 w := by
  rw [State.push16_read w hP hs, if_pos rfl]

theorem State.push16_read_high : (s.push16 w P).mem.read (s.sp - 1#16) = hi8 w := by
  rw [State.push16_read w hP hs, if_neg (word_sub_one_ne_sub_two s.sp), if_pos rfl]

theorem State.push16_read_other {a : Word} (hlow : a ≠ s.sp - 2#16) (hhigh : a ≠ s.sp - 1#16) :
    (s.push16 w P).mem.read a = s.mem.read a := by
  rw [State.push16_read w hP hs, if_neg hlow, if_neg hhigh]

end Pushed

/-- Settles O18, by what a push does and how the flat memory reads after it. -/
theorem push16LaysHighByteAbove : Obligations.Push16LaysHighByteAbove := by
  unfold Obligations.Push16LaysHighByteAbove
  intro P s w hi lo t
  refine ⟨?_, fun hP hs => ?_⟩
  · simp only [t, hi, lo, ← hi8_eq_ofNat, ← lo8_eq_ofNat]
    exact State.push16_eq w s P
  · have hsp : t.sp = s.sp - 2#16 := (State.push16_sp w s P).trans (word_sub_two s.sp)
    rw [hsp, word_sub_two_add_one, State.push16_read_low w hP hs, State.push16_read_high w hP hs]
    exact ⟨lo8_toNat w, hi8_toNat w, fun _ hlow hhigh => State.push16_read_other w hP hs hlow hhigh⟩

/-- Settles O19: a pop joins the two bytes a push laid out. -/
theorem pop16UndoesPush16 : Obligations.Pop16UndoesPush16 := by
  unfold Obligations.Pop16UndoesPush16
  refine ⟨fun P s => ?_, fun s v w hs hsp hlow hhigh => ?_⟩
  · rw [State.pop16_eq]
    exact ⟨join16_toNat .., rfl⟩
  · replace hsp : v.sp = s.sp - 2#16 := hsp.trans ((State.push16_sp ..).trans (word_sub_two s.sp))
    rw [hsp, State.push16_read_low w rfl hs] at hlow
    rw [hsp, word_sub_two_add_one, State.push16_read_high w rfl hs] at hhigh
    rw [State.pop16_eq, hsp]
    refine ⟨?_, word_sub_two_add_two s.sp⟩
    simp only [Params.default_mem, Mem.flat_read, word_sub_two_add_one, hlow, hhigh, join16_hi8_lo8]

end Sys2Proof.Machine
end

section
/-! What reaches memory: the transactions of a format and of a whole step (R69, R73, R77), and that the flat memory
changes by the writes among them alone. -/

namespace Sys2Proof.Machine

/-! ## Issued transactions -/

/-- From `s` to `t` the port has grown by `l`, and what `MEM` holds is what those transactions leave there (R69,
R73). -/
def State.Issues (P : Params) (s : State) (l : List Access) (t : State) : Prop :=
  t.port = s.port ++ l ∧ P.mem.Plays s.mem l t.mem

section Issues

variable {P : Params} {s t u : State}

theorem State.Issues.trans {l k : List Access} (hst : s.Issues P l t) (htu : t.Issues P k u) :
    s.Issues P (l ++ k) u := by
  obtain ⟨hport, hmem⟩ := hst
  obtain ⟨hport', hmem'⟩ := htu
  exact ⟨by rw [hport', hport, List.append_assoc], (Mem.plays_append l k).mpr ⟨t.mem, hmem, hmem'⟩⟩

/-- A state with the same port and memory has issued nothing. -/
theorem State.issues_nil (hport : t.port = s.port) (hmem : t.mem = s.mem) : s.Issues P [] t :=
  ⟨by simpa using hport, hmem⟩

/-- What leaves the port and memory alone issues nothing more. -/
theorem State.Issues.congr {l : List Access} (h : s.Issues P l t) (hport : u.port = t.port) (hmem : u.mem = t.mem) :
    s.Issues P l u := by
  rwa [State.Issues, hport, hmem]

theorem State.memRead_issues (a : Word) (s : State) :
    s.Issues P [.read a (P.mem.read s.mem a).1] (s.memRead a P).2 := ⟨rfl, rfl, rfl⟩

theorem State.memWrite_issues (a : Word) (v : Byte) (s : State) : s.Issues P [.write a v] (s.memWrite a v P) :=
  ⟨rfl, rfl⟩

theorem State.push16_issues (w : Word) (s : State) :
    s.Issues P [.write (s.sp - 1#16) (hi8 w), .write (s.sp - 2#16) (lo8 w)] (s.push16 w P) := by
  rw [State.push16_eq]
  exact ⟨rfl, rfl⟩

theorem State.pop16_issues (s : State) :
    s.Issues P [.read s.sp (P.mem.read s.mem s.sp).1,
      .read (s.sp + 1#16) (P.mem.read (P.mem.read s.mem s.sp).2 (s.sp + 1#16)).1] (s.pop16 P).2 := by
  rw [State.pop16_eq]
  exact ⟨rfl, rfl, rfl, rfl⟩

/-- A charge issues nothing more, or the divider's read and write. -/
theorem State.Issues.charge {l : List Access} (n : Nat) (h : s.Issues P l t) : ∃ k, s.Issues P k (t.charge n P) := by
  rw [State.charge_eq]
  split
  · have htick := (t.memRead_issues (P := P) Config.divAddr).trans
      (State.memWrite_issues Config.divAddr ((P.mem.read t.mem Config.divAddr).1 + 1#8) _)
    exact ⟨_, (h.trans htick).congr (by simp) rfl⟩
  · exact ⟨l, h⟩

theorem State.dispatch_issues (i : Source) (ifv : Byte) (s : State) : ∃ l, s.Issues P l (s.dispatch i ifv P) := by
  rw [State.dispatch_eq]
  exact State.Issues.charge (l := [.write _ _, .write _ _, .write _ _]) 20 ⟨rfl, rfl⟩

theorem State.readIfIe_issues (s : State) : ∃ l, s.Issues P l (s.readIfIe P).2.2 :=
  ⟨_, (s.memRead_issues Config.ifAddr).trans (State.memRead_issues Config.ieAddr _)⟩

theorem State.interruptCheck_issues (s : State) : ∃ l, s.Issues P l (s.interruptCheck P) := by
  obtain ⟨-, e⟩ | ⟨-, -, e⟩ | ⟨-, i, -, e⟩ := s.interruptCheck_cases P <;> rw [e]
  · exact ⟨[], State.issues_nil rfl rfl⟩
  · exact s.readIfIe_issues
  · obtain ⟨l, hread⟩ := s.readIfIe_issues (P := P)
    obtain ⟨k, hdispatch⟩ := State.dispatch_issues i (s.readIfIe P).1 (s.readIfIe P).2.2 (P := P)
    exact ⟨l ++ k, hread.trans hdispatch⟩

theorem State.endOfStep_issues (s : State) : ∃ l, s.Issues P l (s.endOfStep P) := by
  obtain ⟨l, hcharge⟩ := (State.issues_nil rfl rfl : s.Issues P [] s).charge s.tcycles
  have htick : s.Issues P l (s.charge s.tcycles P).eiDelayTick := hcharge.congr (by simp) (by simp)
  obtain ⟨k, hcheck⟩ := (s.charge s.tcycles P).eiDelayTick.interruptCheck_issues (P := P)
  exact ⟨l ++ k, htick.trans hcheck⟩

theorem State.fetchInstr_issues (s : State) : ∃ l, s.Issues P l (s.fetchInstr P).2 := by
  obtain ⟨-, w, m, l, e, hplays⟩ := s.fetchInstr_any P
  exact ⟨l, by rw [e]; exact ⟨rfl, hplays⟩⟩

end Issues

/-! ## Writes to the flat memory -/

/-- The flat memory reads as before wherever nothing is written (R61). -/
theorem Mem.flat_plays_read_of_not_written {m n : Memory} {l : List Access} (h : Mem.flat.Plays m l n)
    (hm : m.wf = true) {a : Word} (ha : .writes a ∉ l.map Access.kind) : n.read a = m.read a := by
  induction l generalizing m with
  | nil => exact congrArg (·.read a) h
  | cons x l ih =>
    simp only [List.map_cons, List.mem_cons, not_or] at ha
    obtain ⟨hx, hl⟩ := ha
    cases x with
    | read b v =>
      obtain ⟨-, hrest⟩ := h
      exact ih hrest hm hl
    | write b v =>
      have hab : a ≠ b := by simpa [Access.kind] using hx
      exact (ih h (Memory.wf_write hm b v) hl).trans (Memory.read_write_ne hm hab v)

/-- Reads alone leave the flat memory equal (R60). -/
theorem Mem.flat_plays_eq_of_no_write {m n : Memory} {l : List Access} (h : Mem.flat.Plays m l n)
    (hl : ∀ a, .writes a ∉ l.map Access.kind) : n = m := by
  induction l generalizing m with
  | nil => exact h
  | cons x l ih =>
    simp only [List.map_cons, List.mem_cons, not_or] at hl
    cases x with
    | read b v =>
      obtain ⟨-, hrest⟩ := h
      exact ih hrest fun a => (hl a).2
    | write b v => exact absurd rfl (hl b).1

end Sys2Proof.Machine

namespace Sys2Proof

open Machine

/-! ## The transactions of a format -/

/-- What the transaction table lists for a format (R77): its data reads, then its writes. -/
def Form.listed (f : Form) (s : State) : List AccessKind :=
  (f.loadedAddrs s).map .reads ++ (f.storedAddrs s).map .writes

theorem Form.writes_mem_listed {f : Form} {s : State} {a : Word} :
    .writes a ∈ f.listed s ↔ a ∈ f.storedAddrs s := by
  simp [Form.listed]

/-- Every format issues what the table lists for it. -/
theorem Form.after_issues (f : Form) (s : State) (P : Params) :
    ∃ l, s.Issues P l (f.after s P) ∧ l.map Access.kind = f.listed s := by
  cases f with
  | ldRHl | ldARr | aluHl | cbBitHl | ldhAA8 | ldAC | ldAA16 =>
    exact ⟨_, (s.memRead_issues _).congr (by simp [Form.after]) (by simp [Form.after]), rfl⟩
  | ldHlR | ldRrA | ldhA8A | ldCA | ldA16A => exact ⟨_, s.memWrite_issues _ _, rfl⟩
  | cbRotHl =>
    exact ⟨_, ((s.memRead_issues _).trans (State.memWrite_issues _ _ _)).congr (State.writeZNHC_port ..)
      (State.writeZNHC_mem ..), rfl⟩
  | push => exact ⟨_, s.push16_issues _, rfl⟩
  | call => exact ⟨_, (s.push16_issues _).congr rfl rfl, rfl⟩
  | ret | reti => exact ⟨_, s.pop16_issues.congr rfl rfl, rfl⟩
  | pop => exact ⟨_, s.pop16_issues.congr (State.setPair_port ..) (State.setPair_mem ..), rfl⟩
  | _ => exact ⟨[], State.issues_nil (by simp [Form.after]) (by simp [Form.after]), rfl⟩

end Sys2Proof

namespace Sys2Proof.Machine

section Frame

variable {f : Form} {s t : State} {P : Params}

theorem execForm_issues (h : execForm f s P = .next t) :
    ∃ l, s.Issues P l t ∧ l.map Access.kind = f.entry.listed s := by
  obtain ⟨n, rfl⟩ := execForm_next h
  exact f.entry.after_issues s P

/-- A whole step reaches memory by the transactions on its port alone. -/
theorem stepWith_plays (h : stepWith s P = .next t) : P.mem.Plays s.mem t.port t.mem := by
  obtain ⟨u, hu, rfl⟩ := stepWith_next h
  obtain ⟨l, hfetch⟩ := s.beginStep.fetchInstr_issues (P := P)
  obtain ⟨k, hexec, -⟩ := execForm_issues hu
  obtain ⟨e, hend⟩ := u.endOfStep_issues (P := P)
  obtain ⟨hport, hmem⟩ := (hfetch.trans hexec).trans hend
  rwa [hport]

end Frame

/-- Settles O52, by what each format and each phase of a step issues. -/
theorem executionIssuesTheListedTransactions : Obligations.ExecutionIssuesTheListedTransactions := by
  unfold Obligations.ExecutionIssuesTheListedTransactions
  intro listed
  refine ⟨fun i s t h => ?_, fun P f s t h => ?_, fun P s t h => stepWith_plays h⟩
  · obtain ⟨l, ⟨hport, -⟩, hl⟩ := execForm_issues (exec_eq_execForm i s ▸ h)
    rw [hport, List.map_append, hl]
    rfl
  · obtain ⟨l, ⟨hport, hmem⟩, hl⟩ := execForm_issues h
    exact ⟨l, hport, hl, hmem⟩

/-- Settles O50: the flat memory changes by the writes a format issues, and those are at its stored addresses. -/
theorem onlyStoredBytesChange : Obligations.OnlyStoredBytesChange := by
  unfold Obligations.OnlyStoredBytesChange
  intro frame
  have hframe (P : Params) (f : Form) (s t : State) (hP : P.mem = Mem.flat) (hs : s.mem.wf = true)
      (h : execForm f s P = .next t) : frame f s t := by
    obtain ⟨l, ⟨-, hmem⟩, hl⟩ := execForm_issues h
    rw [hP] at hmem
    have hwrites (a : Word) : .writes a ∈ l.map Access.kind ↔ a ∈ f.entry.storedAddrs s := by
      rw [hl, Form.writes_mem_listed]
    exact ⟨fun a ha => Mem.flat_plays_read_of_not_written hmem hs (mt (hwrites a).mp ha),
      fun hnone => Mem.flat_plays_eq_of_no_write hmem fun a ha => by simpa [hnone] using (hwrites a).mp ha⟩
  exact ⟨fun i s t hs h => hframe Params.default i.form s t rfl hs (exec_eq_execForm i s ▸ h), hframe⟩

end Sys2Proof.Machine
end

section
/-! The encoder of R91 and R93 and the decoder of R96 are inverse to each other (30_encoding.md). -/

namespace Sys2Proof

open Machine

/-! ## Encoding what was decoded -/

/-- The opcodes with a byte after them: the second opcode byte of 0xCB, or an immediate of one byte (R95). -/
theorem opcode_of_count_one : ∀ op : Byte, operandCount op = 1 → op = Config.cbByte ∨
    op = 0x06#8 ∨ op = 0x0E#8 ∨ op = 0x16#8 ∨ op = 0x1E#8 ∨ op = 0x26#8 ∨ op = 0x2E#8 ∨ op = 0x3E#8 ∨
    op = 0x18#8 ∨ op = 0x20#8 ∨ op = 0x28#8 ∨ op = 0x30#8 ∨ op = 0x38#8 ∨
    op = 0xC6#8 ∨ op = 0xD6#8 ∨ op = 0xFE#8 ∨ op = 0xE0#8 ∨ op = 0xF0#8 := by decide

/-- The opcodes with an immediate of two bytes (R95). -/
theorem opcode_of_count_two : ∀ op : Byte, operandCount op = 2 →
    op = 0x01#8 ∨ op = 0x11#8 ∨ op = 0x21#8 ∨ op = 0x31#8 ∨ op = 0xCD#8 ∨ op = 0xEA#8 ∨ op = 0xFA#8 := by decide

/-- The prefixed table of R96 stands where the bit patterns of R91 put its entries. -/
theorem encode_decodePrefixed : ∀ op2 : Byte, encode (decodePrefixed op2) = [Config.cbByte, op2] := by decide

theorem encode_decodeBytes_of_count_zero {op : Byte} (h : operandCount op = 0) (x y : Byte) :
    encode (decodeBytes op x y) = [op] := by
  have hbare : ∀ op : Byte, operandCount op = 0 → encode (decodeBytes op 0 0) = [op] := by decide
  rw [decodeBytes_of_count_zero h, hbare op h]

theorem encode_decodeBytes_of_count_one {op : Byte} (h : operandCount op = 1) (x y : Byte) :
    encode (decodeBytes op x y) = [op, x] := by
  obtain rfl | hop := opcode_of_count_one op h
  · exact encode_decodePrefixed x
  · obtain rfl | rfl | rfl | rfl | rfl | rfl | rfl | rfl | rfl | rfl | rfl | rfl | rfl | rfl | rfl | rfl | rfl := hop
      <;> rfl

theorem encode_decodeBytes_of_count_two {op : Byte} (h : operandCount op = 2) (x y : Byte) :
    encode (decodeBytes op x y) = [op, x, y] := by
  have himm : encode (decodeBytes op x y) = op :: immBytes (join16 y x) := by
    obtain rfl | rfl | rfl | rfl | rfl | rfl | rfl := opcode_of_count_two op h <;> rfl
  simpa [immBytes] using himm

/-- Settles O2, by the number of bytes after the opcode byte. -/
theorem encodeOfDecodeIsTheFetchedBytes : Obligations.EncodeOfDecodeIsTheFetchedBytes := by
  unfold Obligations.EncodeOfDecodeIsTheFetchedBytes
  intro op x y
  obtain h | h | h := operandCount_cases op <;> rw [h]
  · exact encode_decodeBytes_of_count_zero h x y
  · exact encode_decodeBytes_of_count_one h x y
  · exact encode_decodeBytes_of_count_two h x y

/-- The opcode byte stands first. -/
theorem encode_decodeBytes_head (op x y : Byte) : (encode (decodeBytes op x y)).head? = some op := by
  rw [encodeOfDecodeIsTheFetchedBytes op x y, Nat.add_comm]
  rfl

/-! ## Decoding what was encoded -/

/-- `decode` reads the bytes that its opcode byte asks for and leaves the others (R92, R99). -/
theorem decode_take (op x y : Byte) (rest : List Byte) :
    decode ([op, x, y].take (1 + operandCount op) ++ rest) = .ok (decodeBytes op x y) rest := by
  obtain h | h | h := operandCount_cases op <;> rw [h]
  · rw [decodeBytes_of_count_zero h]
    exact decode_of_count_zero h rest
  · rw [decodeBytes_of_count_one h]
    exact decode_of_count_one h x rest
  · exact decode_of_count_two h x y rest

/-- What `decode` accepts, it has read by `decodeBytes`. -/
theorem exists_decodeBytes_of_decode {bytes rest : List Byte} {i : Instr} (h : decode bytes = .ok i rest) :
    ∃ op x y, decodeBytes op x y = i := by
  cases bytes with
  | nil => cases h
  | cons op operands =>
    simp only [decode] at h
    split at h
    · cases h
    · exact ⟨_, _, _, (Decoded.ok.inj h).1⟩

/-- An immediate of two bytes is read back low byte first (R95). -/
theorem decode_immBytes {op : Byte} {f : Word → Instr} (h : ∀ x y, decode [op, x, y] = .ok (f (join16 y x)) [])
    (w : Word) : decode (op :: immBytes w) = .ok (f w) [] := by
  rw [immBytes, h, join16_hi8_lo8]

/-- Every row but the bare prefix stands in the tables of R96 at the bytes that R91 and R93 give it. -/
theorem decode_encode {i : Instr} (h : i.form.notBarePrefix = true) : decode (encode i) = .ok i [] := by
  cases i with
  | prefixCB => cases h
  | ld_BC_d16 w | ld_DE_d16 w | ld_HL_d16 w | ld_SP_d16 w | call_u16 w | ld_mA16_A w | ld_A_mA16 w =>
    exact decode_immBytes (fun _ _ => rfl) w
  | _ => rfl

/-- Settles O1: the instruction is what some bytes decode to (`decode_encode`), so its encoding is those of them that
`decode` reads (O2). -/
theorem decodeOfEncodeIsTheInstruction : Obligations.DecodeOfEncodeIsTheInstruction := by
  unfold Obligations.DecodeOfEncodeIsTheInstruction
  intro i rest h
  obtain ⟨op, x, y, rfl⟩ := exists_decodeBytes_of_decode (decode_encode h)
  rw [encodeOfDecodeIsTheFetchedBytes op x y]
  exact decode_take op x y rest

/-- Settles O3, by evaluating the decoder on the eight strings. -/
theorem specEncodingsDecode : Obligations.SpecEncodingsDecode := by
  unfold Obligations.SpecEncodingsDecode
  decide

end Sys2Proof
end

section
/-! The bytes with no entry (R97) and the decode failure (R210): which bytes decode to one, and how an execution and a
step end. -/

namespace Sys2Proof

open Machine

/-! ## The bytes that decode to a row with no entry -/

/-- The bytes of R97's list are those that stand alone for a row with no entry. -/
theorem mem_noEntryBaseBytes {op : Byte} : op ∈ noEntryBaseBytes ↔ (decodeBytes op 0 0).form = .noEntry op := by
  have hrows : noEntryBaseBytes.Forall fun op => (decodeBytes op 0 0).form = .noEntry op := by decide
  have hlisted : ∀ op : Byte, (decodeBytes op 0 0).form = .noEntry op → op ∈ noEntryBaseBytes := by decide
  exact ⟨List.forall_iff_forall_mem.mp hrows op, hlisted op⟩

/-- A base row with no entry is one byte long and names it. -/
theorem opcode_of_form_eq_noEntry {op x y byte : Byte} (h : (decodeBytes op x y).form = .noEntry byte) :
    operandCount op = 0 ∧ byte = op := by
  have hbytes : [byte] = [op, x, y].take (1 + operandCount op) := by
    rw [← encodeOfDecodeIsTheFetchedBytes op x y, encode, h, Form.bytes]
  obtain h0 | h1 | h2 := operandCount_cases op
  · exact ⟨h0, by simpa [h0] using hbytes⟩
  · simp [h1] at hbytes
  · simp [h2] at hbytes

/-- The base rows with no entry are those of R97's list, each at its own byte. -/
theorem decodeBytes_form_eq_noEntry {op x y byte : Byte} :
    (decodeBytes op x y).form = .noEntry byte ↔ op ∈ noEntryBaseBytes ∧ byte = op := by
  rw [mem_noEntryBaseBytes]
  constructor
  · intro h
    obtain ⟨hcount, rfl⟩ := opcode_of_form_eq_noEntry h
    exact ⟨decodeBytes_of_count_zero hcount x y ▸ h, rfl⟩
  · rintro ⟨h, rfl⟩
    obtain ⟨hcount, -⟩ := opcode_of_form_eq_noEntry h
    rwa [decodeBytes_of_count_zero hcount]

/-- The prefixed rows with no entry are those of R97's two ranges, each at its own byte. -/
theorem decodePrefixed_form_eq_noEntryCb {op2 byte : Byte} :
    (decodePrefixed op2).form = .noEntryCb byte ↔ noEntryPrefixedByte op2 ∧ byte = op2 := by
  have hranges : ∀ op2 : Byte, (decodePrefixed op2).form = .noEntryCb op2 ↔ noEntryPrefixedByte op2 := by
    unfold noEntryPrefixedByte; decide
  constructor
  · intro h
    obtain rfl : byte = op2 := by simpa [encode, h, Form.bytes, Config.cbByte] using encode_decodePrefixed op2
    exact ⟨(hranges byte).mp h, rfl⟩
  · rintro ⟨hop, rfl⟩
    exact (hranges byte).mpr hop

/-- The prefixed rows are reached through 0xCB alone (R94). -/
theorem decodeBytes_form_eq_noEntryCb {op x y byte : Byte} :
    (decodeBytes op x y).form = .noEntryCb byte ↔ op = 0xCB#8 ∧ noEntryPrefixedByte x ∧ byte = x := by
  constructor
  · intro h
    obtain rfl : 0xCB#8 = op := by simpa [encode, h, Form.bytes] using encode_decodeBytes_head op x y
    exact ⟨rfl, decodePrefixed_form_eq_noEntryCb.mp h⟩
  · rintro ⟨rfl, hx⟩
    exact decodePrefixed_form_eq_noEntryCb.mpr hx

/-- No decoded instruction is the bare prefix: after 0xCB the prefixed table answers (R94, R202). -/
theorem decodeBytes_notBarePrefix (op x y : Byte) : (decodeBytes op x y).form.notBarePrefix = true := by
  cases h : (decodeBytes op x y).form with
  | prefixCb op2 =>
    obtain rfl : 0xCB#8 = op := by simpa [encode, h, Form.bytes] using encode_decodeBytes_head op x y
    obtain ⟨hprefixed, -, -⟩ := decodePrefixed_frame x
    exact h ▸ hprefixed
  | _ => rfl

/-! ## The exception of a format -/

/-- The exception that a format with no table entry raises (R97, R210). -/
def Form.failure : Form → Option Fault
  | .noEntry byte => some (.unimplementedOpcode false byte)
  | .noEntryCb byte => some (.unimplementedOpcode true byte)
  | _ => none

theorem Form.failure_eq_some {f : Form} {r : Fault} : f.failure = some r ↔
    (∃ byte, f = .noEntry byte ∧ r = .unimplementedOpcode false byte) ∨
    (∃ byte, f = .noEntryCb byte ∧ r = .unimplementedOpcode true byte) := by
  cases f with
  | noEntry | noEntryCb => simp [Form.failure, eq_comm]
  | _ => simp [Form.failure]

/-- The bytes whose instruction raises an exception, and which (R97). -/
theorem decodeBytes_failure_eq_some {op x y : Byte} {r : Fault} : (decodeBytes op x y).form.failure = some r ↔
    (op ∈ noEntryBaseBytes ∧ r = .unimplementedOpcode false op) ∨
    (op = 0xCB#8 ∧ noEntryPrefixedByte x ∧ r = .unimplementedOpcode true x) := by
  simp [Form.failure_eq_some, decodeBytes_form_eq_noEntry, decodeBytes_form_eq_noEntryCb, and_assoc]

end Sys2Proof

namespace Sys2Proof.Machine

/-! ## How an execution and a step end -/

/-- An execution raises its format's exception, or completes when there is none (R212). -/
theorem execForm_outcome {f : Form} (hf : f.notBarePrefix = true) (s : State) (P : Params) :
    (f.failure = none ∧ ∃ t, execForm f s P = .next t) ∨ ∃ r, f.failure = some r ∧ execForm f s P = .fault r := by
  cases f with
  | prefixCb => cases hf
  | noEntry | noEntryCb => exact .inr ⟨_, rfl, rfl⟩
  | jrCc cc i8 => exact .inl ⟨rfl, _, jumpRelIf_eq cc i8 s P⟩
  | _ => exact .inl ⟨rfl, _, rfl⟩

/-- A step raises the exception of the format it fetched, or completes when there is none (R212, R230). -/
theorem stepWith_outcome (s : State) (P : Params) :
    ((s.beginStep.fetchInstr P).1.form.failure = none ∧ ∃ t, stepWith s P = .next t) ∨
    ∃ r, (s.beginStep.fetchInstr P).1.form.failure = some r ∧ stepWith s P = .fault r := by
  have hf : (s.beginStep.fetchInstr P).1.form.notBarePrefix = true := by
    obtain ⟨⟨y, e⟩, -⟩ := s.beginStep.fetchInstr_any P
    rw [e]
    exact decodeBytes_notBarePrefix ..
  obtain ⟨hnone, t, h⟩ | ⟨r, hr, h⟩ := execForm_outcome hf (s.beginStep.fetchInstr P).2 P
  · exact .inl ⟨hnone, t.endOfStep P, by simp only [stepWith, h]⟩
  · exact .inr ⟨r, hr, by simp only [stepWith, h]⟩

/-- A step faults on the bytes with no entry that `MEM` answers, and on no others (R97, R210). -/
theorem stepWith_eq_fault {s : State} {P : Params} {r : Fault} :
    let op := (P.mem.read s.mem s.pc).1
    let op2 := (P.mem.read (P.mem.read s.mem s.pc).2 (s.pc + 1#16)).1
    stepWith s P = .fault r ↔ (op ∈ noEntryBaseBytes ∧ r = .unimplementedOpcode false op) ∨
      (op = 0xCB#8 ∧ noEntryPrefixedByte op2 ∧ r = .unimplementedOpcode true op2) := by
  intro op op2
  obtain ⟨⟨y, e⟩, -⟩ := s.beginStep.fetchInstr_any P
  rw [← decodeBytes_failure_eq_some (y := y), ← show _ = decodeBytes op op2 y from e]
  obtain ⟨hnone, t, h⟩ | ⟨q, hq, h⟩ := stepWith_outcome s P
  · simp [hnone, h]
  · simp [hq, h]

/-- Settles O5, by the formats that raise an exception and the bytes that decode to one. -/
theorem stepFaultsExactlyOnBytesWithoutEntry : Obligations.StepFaultsExactlyOnBytesWithoutEntry := by
  unfold Obligations.StepFaultsExactlyOnBytesWithoutEntry
  intro exactly
  have hwith (P : Params) : exactly (fun s => stepWith s P) (fun s => (P.mem.read s.mem s.pc).1)
      (fun s => (P.mem.read (P.mem.read s.mem s.pc).2 (s.pc + 1#16)).1) := by
    refine fun s => ⟨fun r => stepWith_eq_fault, ?_⟩
    obtain ⟨-, t, h⟩ | ⟨r, -, h⟩ := stepWith_outcome s P
    · exact ⟨by simp [h], fun _ => ⟨t, h⟩⟩
    · exact ⟨by simp [h], fun hno => absurd ⟨r, h⟩ hno⟩
  have hstep : step = fun s => stepWith s Params.default := funext step_eq_stepWith
  exact ⟨by rw [hstep]; exact hwith Params.default, hwith⟩

/-- Settles O6: each arm of `exec` is its format's operation (`exec_eq_execForm`), and that of these formats is the
decode failure. -/
theorem rowsWithoutEntryAreDecodeFailures : Obligations.RowsWithoutEntryAreDecodeFailures := by
  unfold Obligations.RowsWithoutEntryAreDecodeFailures
  intro i byte s
  rw [exec_eq_execForm]
  constructor <;> intro h <;> rw [h] <;> rfl

end Sys2Proof.Machine
end

section
/-! Loads and stores of one byte (R120 to R127, R190 to R195): the next state in full. -/

namespace Sys2Proof.Machine

/-- An instruction executes as its format does, at the default parameters. -/
theorem exec_of_form_eq {i : Instr} {f : Form} (h : i.form = f) (s : State) :
    exec i s = execForm f s Params.default :=
  h ▸ exec_eq_execForm i s

/-- The I/O page is 0xFF above the offset byte: the sum of R95 carries nothing into the high byte. -/
theorem ioAddr_eq_join16 (off : Byte) : ioAddr off = join16 0xFF#8 off := by
  apply BitVec.eq_of_toNat_eq
  have hoff := off.isLt
  rw [join16_toNat, ioAddr, BitVec.toNat_add, zext16_toNat]
  simp only [BitVec.toNat_ofNat]
  omega

/-- A load from the flat memory issues one read and leaves memory; the register write leaves all but its register. -/
theorem loadMem_eq (r : Reg8) (addr : Word) (cost : Nat) (s : State) : loadMem r addr cost s =
    .next { s.setReg r (s.mem.read addr) with
      port := s.port ++ [.read addr (s.mem.read addr)], tcycles := cost } := by
  cases r <;> rfl

/-- A store to the flat memory is one write. -/
theorem storeMem_eq (addr : Word) (v : Byte) (cost : Nat) (s : State) : storeMem addr v cost s =
    .next { s with mem := s.mem.write addr v, port := s.port ++ [.write addr v], tcycles := cost } := rfl

/-- Settles O24: each of the two formats is one register write, and reports its cost. -/
theorem loadRegisterFromByteOrRegister : Obligations.LoadRegisterFromByteOrRegister := by
  unfold Obligations.LoadRegisterFromByteOrRegister
  intro i dst src d8 s
  constructor
  · intro hform
    exact (exec_of_form_eq hform s).trans (complete_eq 8 (s.setReg dst d8))
  · intro hform
    exact (exec_of_form_eq hform s).trans (complete_eq 4 (s.setReg dst (s.reg src)))

/-- Settles O25: each format is one load (`loadMem_eq`), from the address it names; on the I/O page that address is
`ioAddr_eq_join16`. -/
theorem loadRegisterFromMemory : Obligations.LoadRegisterFromMemory := by
  unfold Obligations.LoadRegisterFromMemory
  intro i dst a8 a16 s loaded
  rw [← ioAddr_eq_join16, ← ioAddr_eq_join16]
  refine ⟨fun hHl => ?_, fun hBc => ?_, fun hDe => ?_, fun hA8 => ?_, fun hC => ?_, fun hA16 => ?_⟩
  · exact (exec_of_form_eq hHl s).trans (loadMem_eq dst s.addrHL 8 s)
  · exact (exec_of_form_eq hBc s).trans (loadMem_eq .a (s.addrInd .bc) 8 s)
  · exact (exec_of_form_eq hDe s).trans (loadMem_eq .a (s.addrInd .de) 8 s)
  · exact (exec_of_form_eq hA8 s).trans (loadMem_eq .a (ioAddr a8) 12 s)
  · exact (exec_of_form_eq hC s).trans (loadMem_eq .a (ioAddr s.c) 8 s)
  · exact (exec_of_form_eq hA16 s).trans (loadMem_eq .a a16 16 s)

/-- Settles O26: each format is one store (`storeMem_eq`), to the address it names; on the I/O page that address is
`ioAddr_eq_join16`. -/
theorem storeRegisterToMemory : Obligations.StoreRegisterToMemory := by
  unfold Obligations.StoreRegisterToMemory
  intro i src a8 a16 s stored
  rw [← ioAddr_eq_join16, ← ioAddr_eq_join16]
  refine ⟨fun hHl => ?_, fun hBc => ?_, fun hDe => ?_, fun hA8 => ?_, fun hC => ?_, fun hA16 => ?_⟩
  · exact (exec_of_form_eq hHl s).trans (storeMem_eq s.addrHL (s.reg src) 8 s)
  · exact (exec_of_form_eq hBc s).trans (storeMem_eq (s.addrInd .bc) s.a 8 s)
  · exact (exec_of_form_eq hDe s).trans (storeMem_eq (s.addrInd .de) s.a 8 s)
  · exact (exec_of_form_eq hA8 s).trans (storeMem_eq (ioAddr a8) s.a 12 s)
  · exact (exec_of_form_eq hC s).trans (storeMem_eq (ioAddr s.c) s.a 8 s)
  · exact (exec_of_form_eq hA16 s).trans (storeMem_eq a16 s.a 16 s)

end Sys2Proof.Machine
end

section
/-! Loads of a word (R130, R131): the next state in full. -/

namespace Sys2Proof.Machine

/-- A load of an immediate word is one register write, of a pair or of SP, and reports R130's and R131's cost. -/
theorem exec_of_ldRrD16 {i : Instr} {rr : Reg16} {d16 : Word} (h : i.form = .ldRrD16 rr d16) (s : State) :
    exec i s = .next { s.setReg16 rr d16 with tcycles := 12 } :=
  (exec_of_form_eq h s).trans (complete_eq 12 (s.setReg16 rr d16))

/-- Settles O27: each load is one write of its pair or of SP (`exec_of_ldRrD16`), and the write of a pair is the word's
high and low byte to the pair's two registers. -/
theorem loadImmediateWord : Obligations.LoadImmediateWord := by
  unfold Obligations.LoadImmediateWord
  intro i d16 s
  refine ⟨fun hBc => ?_, fun hDe => ?_, fun hHl => ?_, fun hSp => ?_⟩
  · exact exec_of_ldRrD16 hBc s
  · exact exec_of_ldRrD16 hDe s
  · exact exec_of_ldRrD16 hHl s
  · exact exec_of_ldRrD16 hSp s

end Sys2Proof.Machine
end

section
/-! Increment and decrement (R135 to R141): the next state in full, and the two as each other's inverse. -/

namespace Sys2Proof.Machine

/-- The low nibble compared as a byte is the remainder by 16 compared as a number. -/
theorem and_low_eq_iff (x y : Byte) : x &&& 0x0F#8 = y ↔ x.toNat % 16 = y.toNat := by
  rw [← BitVec.toNat_inj, byte_low_nibble]

section Byte

variable {i : Instr} {r : Reg8} {s t : State}

/-- INC r is one register write and one write of Z, N and Hf, and reports R104's cost. -/
theorem exec_of_incR (hform : i.form = .incR r) : exec i s =
    complete 4 ((s.setReg r (s.reg r + 1#8)).writeZNH (s.reg r + 1#8 == 0#8) false (s.reg r &&& 0x0F#8 == 0x0F#8)) :=
  exec_of_form_eq hform s

/-- DEC r is one register write and one write of Z, N and Hf, and reports R104's cost. -/
theorem exec_of_decR (hform : i.form = .decR r) : exec i s =
    complete 4 ((s.setReg r (s.reg r - 1#8)).writeZNH (s.reg r - 1#8 == 0#8) true (s.reg r &&& 0x0F#8 == 0x00#8)) :=
  exec_of_form_eq hform s

/-- Everything such a pair of writes does: the register and F change, Cy is the one before. -/
theorem complete_setReg_writeZNH (cost : Nat) (v : Byte) (z n h : Bool) :
    complete cost ((s.setReg r v).writeZNH z n h) =
      .next { s.setReg r v with f := flagByte z n h s.flagC, tcycles := cost } := by
  rw [complete_eq, State.writeZNH_eq, State.setReg_flagC]

/-- What is read after such a pair of writes. -/
theorem reads_of_complete_setReg_writeZNH {cost : Nat} {v : Byte} {z n h : Bool}
    (hnext : complete cost ((s.setReg r v).writeZNH z n h) = .next t) :
    t.reg r = v ∧ t.flagZ = z ∧ t.flagN = n ∧ t.flagH = h ∧ t.flagC = s.flagC := by
  obtain rfl := complete_next hnext
  have hf : ((s.setReg r v).writeZNH z n h).f = flagByte z n h s.flagC := by simp
  have hreg : ((s.setReg r v).writeZNH z n h).reg r = v := by simp
  exact ⟨(State.reg_congr rfl rfl rfl rfl rfl rfl rfl r).trans hreg, State.flagZ_of_f hf, State.flagN_of_f hf,
    State.flagH_of_f hf, State.flagC_of_f hf⟩

end Byte

/-- Settles O28: the sum is 0 only for the operand 0xFF, and Hf compares the operand's low nibble. -/
theorem incrementRegister : Obligations.IncrementRegister := by
  unfold Obligations.IncrementRegister
  intro i r s hform
  have hz : s.reg r + 1#8 = 0#8 ↔ s.reg r = 0xFF#8 := by bv_omega
  have hh : s.reg r &&& 0x0F#8 = 0x0F#8 ↔ (s.reg r).toNat % 16 = 15 := and_low_eq_iff ..
  rw [exec_of_incR hform, complete_setReg_writeZNH, beq_eq_decide, beq_eq_decide]
  simp only [hz, hh]

/-- Settles O29: the difference is 0 only for the operand 1, and Hf compares the operand's low nibble. -/
theorem decrementRegister : Obligations.DecrementRegister := by
  unfold Obligations.DecrementRegister
  intro i r s hform
  have hz : s.reg r - 1#8 = 0#8 ↔ s.reg r = 0x01#8 := by bv_omega
  have hh : s.reg r &&& 0x0F#8 = 0x00#8 ↔ (s.reg r).toNat % 16 = 0 := and_low_eq_iff ..
  rw [exec_of_decR hform, complete_setReg_writeZNH, beq_eq_decide, beq_eq_decide]
  simp only [hz, hh]

/-- Settles O30: the second instruction reads what the first wrote, its result is the operand of the first, and neither
writes Cy. -/
theorem incrementAndDecrementUndoEachOther : Obligations.IncrementAndDecrementUndoEachOther := by
  unfold Obligations.IncrementAndDecrementUndoEachOther
  intro i j r s t u hi hj
  constructor
  · intro hinc hdec
    obtain ⟨htr, -, -, -, htc⟩ := reads_of_complete_setReg_writeZNH (exec_of_incR hi ▸ hinc)
    obtain ⟨hur, huz, hun, huh, huc⟩ := reads_of_complete_setReg_writeZNH (exec_of_decR hj ▸ hdec)
    rw [htr, BitVec.add_sub_cancel] at hur huz
    rw [htr] at huh
    exact ⟨hur, huz, hun, huh, huc.trans htc⟩
  · intro hdec hinc
    obtain ⟨htr, -, -, -, htc⟩ := reads_of_complete_setReg_writeZNH (exec_of_decR hj ▸ hdec)
    obtain ⟨hur, huz, hun, huh, huc⟩ := reads_of_complete_setReg_writeZNH (exec_of_incR hi ▸ hinc)
    rw [htr, BitVec.sub_add_cancel] at hur huz
    rw [htr] at huh
    exact ⟨hur, huz, hun, huh, huc.trans htc⟩

section Word

variable {i : Instr} {rr : Reg16}

/-- INC rr is one register write, of a pair or of SP, and reports R104's cost. -/
theorem exec_of_incRr (hform : i.form = .incRr rr) (s : State) :
    exec i s = .next { s.setReg16 rr (s.reg16 rr + 1#16) with tcycles := 8 } :=
  (exec_of_form_eq hform s).trans (complete_eq 8 (s.setReg16 rr (s.reg16 rr + 1#16)))

/-- DEC rr is one register write, of a pair or of SP, and reports R104's cost. -/
theorem exec_of_decRr (hform : i.form = .decRr rr) (s : State) :
    exec i s = .next { s.setReg16 rr (s.reg16 rr - 1#16) with tcycles := 8 } :=
  (exec_of_form_eq hform s).trans (complete_eq 8 (s.setReg16 rr (s.reg16 rr - 1#16)))

end Word

/-- Settles O31: each instruction is one write of its pair or of SP (`exec_of_incRr`, `exec_of_decRr`), and the write of
a pair is the word's high and low byte to the pair's two registers. -/
theorem incrementAndDecrementWord : Obligations.IncrementAndDecrementWord := by
  unfold Obligations.IncrementAndDecrementWord
  intro i s bc de hl
  refine ⟨fun hBc => ?_, fun hDe => ?_, fun hHl => ?_, fun hSp => ?_,
    fun hBc => ?_, fun hDe => ?_, fun hHl => ?_, fun hSp => ?_⟩
  · exact exec_of_incRr hBc s
  · exact exec_of_incRr hDe s
  · exact exec_of_incRr hHl s
  · exact exec_of_incRr hSp s
  · exact exec_of_decRr hBc s
  · exact exec_of_decRr hDe s
  · exact exec_of_decRr hHl s
  · exact exec_of_decRr hSp s

end Sys2Proof.Machine
end

section
/-! Add, subtract, compare (R145 to R155): the two functions as numbers, and the next state in full. -/

namespace Sys2Proof.Machine

/-! ### The functions of the ALU -/

/-- `add8` with its flags as conditions on the operands' values (R145). -/
theorem add8_eq (a b : Byte) : add8 a b =
    { res := a + b
      z := decide ((a.toNat + b.toNat) % 256 = 0)
      n := false
      h := decide (a.toNat % 16 + b.toNat % 16 > 15)
      c := decide (a.toNat + b.toNat > 255) } := by
  have hz : a + b = 0 ↔ (a.toNat + b.toNat) % 256 = 0 := by
    rw [← BitVec.toNat_inj, BitVec.toNat_add]
    rfl
  simp only [add8, beq_eq_decide, hz, byte_low_nibble, gt_iff_lt]

/-- `sub8` with its flags as conditions on the operands' values (R146): the difference is 0 only for equal operands. -/
theorem sub8_eq (a b : Byte) : sub8 a b =
    { res := a - b
      z := decide (a = b)
      n := true
      h := decide (a.toNat % 16 < b.toNat % 16)
      c := decide (a.toNat < b.toNat) } := by
  have hz : a - b = 0 ↔ a = b := sub_eq_zero
  simp only [sub8, beq_eq_decide, hz, byte_low_nibble]

/-- Settles O20: the result is the sum of words, the flags are those of `add8_eq`. -/
theorem add8_spec : Obligations.Add8 := by
  unfold Obligations.Add8
  intro a b
  have hres : (a + b).toNat = (a.toNat + b.toNat) % 256 := BitVec.toNat_add a b
  simp only [add8_eq, hres, decide_eq_true_eq, and_self]

/-- Settles O21: the result is the difference of words, the flags are those of `sub8_eq`; no byte is below itself. -/
theorem sub8_spec : Obligations.Sub8 := by
  unfold Obligations.Sub8
  intro a b
  have hres : (a - b).toNat = (a.toNat + 256 - b.toNat) % 256 := by bv_omega
  have hz : a = b ↔ (a.toNat + 256 - b.toNat) % 256 = 0 := by bv_omega
  simp only [sub8_eq, hres, ← hz, gt_iff_lt, decide_eq_true_eq, decide_eq_false_iff_not, true_and]
  rintro rfl
  exact ⟨Nat.lt_irrefl _, Nat.lt_irrefl _⟩

/-! ### The instructions -/

/-- ADD writes A and F. -/
theorem State.alu_add_eq (x : Byte) (s : State) : s.alu .add x =
    { s with
      a := s.a + x
      f := flagByte (decide ((s.a.toNat + x.toNat) % 256 = 0)) false
        (decide (s.a.toNat % 16 + x.toNat % 16 > 15)) (decide (s.a.toNat + x.toNat > 255)) } := by
  simp only [State.alu, add8_eq, State.writeZNHC_eq]

/-- SUB writes A and F. -/
theorem State.alu_sub_eq (x : Byte) (s : State) : s.alu .sub x =
    { s with
      a := s.a - x
      f := flagByte (decide (s.a = x)) true (decide (s.a.toNat % 16 < x.toNat % 16))
        (decide (s.a.toNat < x.toNat)) } := by
  simp only [State.alu, sub8_eq, State.writeZNHC_eq]

/-- CP writes F alone. -/
theorem State.alu_cp_eq (x : Byte) (s : State) : s.alu .cp x =
    { s with
      f := flagByte (decide (s.a = x)) true (decide (s.a.toNat % 16 < x.toNat % 16))
        (decide (s.a.toNat < x.toNat)) } := by
  simp only [State.alu, sub8_eq, State.writeZNHC_eq]

/-- The operation neither reads nor writes the record of transactions. -/
theorem State.alu_with_port (op : AluOp) (x : Byte) (p : List Access) (s : State) :
    ({ s with port := p }).alu op x = { s.alu op x with port := p } := by
  cases op <;> simp only [State.alu, State.writeZNHC_eq]

/-- The three operand forms of one operation: the operand, the transactions that fetch it and the cost differ, the
operation is the same. `next` is the state that the operation, those transactions and the cost leave. -/
theorem exec_of_alu {op : AluOp} {s : State} {next : Byte → List Access → Nat → State}
    (hnext : ∀ x p cost, next x p cost = { s.alu op x with port := s.port ++ p, tcycles := cost })
    (i : Instr) (src : Reg8) (d8 : Byte) :
    let hl := join16 s.h s.l
    (i.form = .aluR op src → exec i s = .next (next (s.reg src) [] 4)) ∧
    (i.form = .aluHl op → exec i s = .next (next (s.mem.read hl) [.read hl (s.mem.read hl)] 8)) ∧
    (i.form = .aluD8 op d8 → exec i s = .next (next d8 [] 8)) := by
  intro hl
  have hcomplete (x : Byte) (p : List Access) (cost : Nat) :
      complete cost (({ s with port := s.port ++ p }).alu op x) = .next (next x p cost) := by
    rw [complete_eq, State.alu_with_port, hnext]
  have hcomplete_nil (x : Byte) (cost : Nat) : complete cost (s.alu op x) = .next (next x [] cost) := by
    rw [← hcomplete, List.append_nil]
  refine ⟨fun hR => ?_, fun hHl => ?_, fun hD8 => ?_⟩
  · exact (exec_of_form_eq hR s).trans (hcomplete_nil (s.reg src) 4)
  · exact (exec_of_form_eq hHl s).trans (hcomplete (s.mem.read hl) [.read hl (s.mem.read hl)] 8)
  · exact (exec_of_form_eq hD8 s).trans (hcomplete_nil d8 8)

/-- Settles O32: the three forms of ADD (`exec_of_alu`), each the write of A and F that `State.alu_add_eq` says. -/
theorem addToAccumulator : Obligations.AddToAccumulator := by
  unfold Obligations.AddToAccumulator
  intro i src d8 s sum
  exact exec_of_alu (fun x p cost => by rw [State.alu_add_eq]) i src d8

/-- Settles O33: the three forms of SUB (`exec_of_alu`), each the write of A and F that `State.alu_sub_eq` says. -/
theorem subtractFromAccumulator : Obligations.SubtractFromAccumulator := by
  unfold Obligations.SubtractFromAccumulator
  intro i src d8 s diff
  exact exec_of_alu (fun x p cost => by rw [State.alu_sub_eq]) i src d8

/-- Settles O34: the three forms of CP (`exec_of_alu`), each the write of F alone that `State.alu_cp_eq` says. -/
theorem compareAccumulator : Obligations.CompareAccumulator := by
  unfold Obligations.CompareAccumulator
  intro i src d8 s compared
  exact exec_of_alu (fun x p cost => by rw [State.alu_cp_eq]) i src d8

end Sys2Proof.Machine
end

section
/-! Rotates (R160 to R170): the four functions bit by bit and their periods, and the next state in full. -/

namespace Sys2Proof.Machine

/-! ### The four functions -/

theorem bitByte_getLsbD (b : Bool) (k : Nat) : (bitByte b).getLsbD k = (decide (k = 0) && b) := by
  cases b <;> simp [bitByte, BitVec.getLsbD_one]

/-- The plain rotate to the left is the one through carry that takes bit 7 for the old carry. -/
theorem rlc8_eq_rl8 (v : Byte) : rlc8 v = rl8 v (v.getLsbD 7) := rfl

/-- The plain rotate to the right is the one through carry that takes bit 0 for the old carry. -/
theorem rrc8_eq_rr8 (v : Byte) : rrc8 v = rr8 v (v.getLsbD 0) := rfl

section Bits

variable (v : Byte) (cin : Bool) {k : Nat}

theorem rl8_getLsbD_zero : (rl8 v cin).1.getLsbD 0 = cin := by
  simp [rl8, bitByte_getLsbD, -BitVec.getLsbD_eq_getElem]

theorem rl8_getLsbD_succ (hk : k < 7) : (rl8 v cin).1.getLsbD (k + 1) = v.getLsbD k := by
  simp [rl8, bitByte_getLsbD, show k + 1 < 8 by omega, -BitVec.getLsbD_eq_getElem]

theorem rr8_getLsbD_seven : (rr8 v cin).1.getLsbD 7 = cin := by
  simp [rr8, bitByte_getLsbD, -BitVec.getLsbD_eq_getElem]

theorem rr8_getLsbD_of_lt (hk : k < 7) : (rr8 v cin).1.getLsbD k = v.getLsbD (k + 1) := by
  simp [rr8, Nat.add_comm, hk]

end Bits

/-! ### Their periods -/

/-- Where a function moves every place of a ring by one step, as many applications as the ring has places restore
every value that its places determine. -/
theorem iterate_card_eq_of_shift {G α β : Type*} [AddCommGroup G] [Fintype G] {place : α → G → β}
    (hinj : Function.Injective place) {f : α → α} {d : G} (hf : ∀ x k, place (f x) (k + d) = place x k) (x : α) :
    f^[Fintype.card G] x = x := by
  have hshift (m : Nat) (k : G) : place (f^[m] x) (k + m • d) = place x k := by
    induction m with
    | zero => simp
    | succ m ih => rw [Function.iterate_succ_apply', succ_nsmul, ← add_assoc, hf, ih]
  apply hinj
  funext k
  rw [← hshift (Fintype.card G) k, card_nsmul_eq_zero, add_zero]

/-- One step around a ring: the last place goes to the first, every other to the next. -/
theorem shift_of_zero_of_succ {n : Nat} {β : Type*} {x y : Fin (n + 1) → β} (hzero : y 0 = x (Fin.last n))
    (hsucc : ∀ k : Fin n, y k.succ = x k.castSucc) (k : Fin (n + 1)) : y (k + 1) = x k := by
  cases k using Fin.lastCases with
  | last => rw [Fin.last_add_one, hzero]
  | cast k => rw [Fin.coeSucc_eq_succ, hsucc]

/-- The ring of a plain rotate: the byte's eight bits. -/
def bitRing (v : Byte) (k : Fin 8) : Bool := v.getLsbD k

/-- The ring of a rotate through carry: the byte's eight bits and, between bit 7 and bit 0, the carry. -/
def carryRing (p : Byte × Bool) : Fin 9 → Bool := Fin.snoc (bitRing p.1) p.2

theorem bitRing_injective : Function.Injective bitRing := fun _ _ h =>
  BitVec.eq_of_getLsbD_eq fun k hk => congrFun h ⟨k, hk⟩

theorem carryRing_castSucc (p : Byte × Bool) (k : Fin 8) : carryRing p k.castSucc = p.1.getLsbD k :=
  Fin.snoc_castSucc ..

theorem carryRing_injective : Function.Injective carryRing := by
  intro p q h
  obtain ⟨hbits, hcarry⟩ := Fin.snoc_injective2 h
  exact Prod.ext (bitRing_injective hbits) hcarry

theorem bitRing_rlc8 (v : Byte) : ∀ k, bitRing (rlc8 v).1 (k + 1) = bitRing v k := by
  rw [rlc8_eq_rl8]
  exact shift_of_zero_of_succ (rl8_getLsbD_zero v _) fun k => rl8_getLsbD_succ v _ k.isLt

theorem bitRing_rrc8 (v : Byte) : ∀ k, bitRing v (k + 1) = bitRing (rrc8 v).1 k := by
  rw [rrc8_eq_rr8]
  exact shift_of_zero_of_succ (rr8_getLsbD_seven v _).symm fun k => (rr8_getLsbD_of_lt v _ k.isLt).symm

theorem carryRing_rl8 (p : Byte × Bool) : ∀ k, carryRing (rl8 p.1 p.2) (k + 1) = carryRing p k := by
  refine shift_of_zero_of_succ (rl8_getLsbD_zero p.1 p.2) fun k => ?_
  cases k using Fin.lastCases with
  | last => rfl
  | cast k =>
    rw [Fin.succ_castSucc, carryRing_castSucc, carryRing_castSucc]
    exact rl8_getLsbD_succ p.1 p.2 k.isLt

theorem carryRing_rr8 (p : Byte × Bool) : ∀ k, carryRing p (k + 1) = carryRing (rr8 p.1 p.2) k := by
  refine shift_of_zero_of_succ rfl fun k => ?_
  cases k using Fin.lastCases with
  | last => exact (rr8_getLsbD_seven p.1 p.2).symm
  | cast k =>
    rw [Fin.succ_castSucc, carryRing_castSucc, carryRing_castSucc]
    exact (rr8_getLsbD_of_lt p.1 p.2 k.isLt).symm

/-- Settles O22: a plain rotate is one step around the byte's eight bits, a rotate through carry one around the nine
places with the carry, and as many steps as there are places restore each (`iterate_card_eq_of_shift`). -/
theorem rotateFunctions : Obligations.RotateFunctions := by
  unfold Obligations.RotateFunctions
  refine ⟨fun v cin => ⟨?_, ?_, ?_, ?_⟩, fun v => ⟨?_, ?_⟩, fun v cin => ⟨?_, ?_⟩⟩
  · rw [rlc8_eq_rl8]
    exact ⟨rfl, rl8_getLsbD_zero v _, fun k => rl8_getLsbD_succ v _⟩
  · rw [rrc8_eq_rr8]
    exact ⟨rfl, rr8_getLsbD_seven v _, fun k => rr8_getLsbD_of_lt v _⟩
  · exact ⟨rfl, rl8_getLsbD_zero v cin, fun k => rl8_getLsbD_succ v cin⟩
  · exact ⟨rfl, rr8_getLsbD_seven v cin, fun k => rr8_getLsbD_of_lt v cin⟩
  · exact iterate_card_eq_of_shift bitRing_injective bitRing_rlc8 v
  · exact iterate_card_eq_of_shift (d := -1) bitRing_injective
      (fun x k => by rw [← bitRing_rrc8, neg_add_cancel_right]) v
  · exact iterate_card_eq_of_shift carryRing_injective carryRing_rl8 (v, cin)
  · exact iterate_card_eq_of_shift (d := -1) carryRing_injective
      (fun x k => by rw [← carryRing_rr8, neg_add_cancel_right]) (v, cin)

/-! ### The instructions -/

/-- An operation whose last effect is a write of all four flags leaves them as F. -/
theorem complete_writeZNHC (cost : Nat) (z n h c : Bool) (s : State) :
    complete cost (s.writeZNHC z n h c) = .next { s with f := flagByte z n h c, tcycles := cost } := by
  rw [complete_eq, State.writeZNHC_eq]

section Exec

variable {i : Instr} {k : RotKind} {r : Reg8}

/-- A rotate of a register (R91) is one register write and one write of F; its cost counts the byte 0xCB too (R202). -/
theorem exec_of_cbRotR (hform : i.form = .cbRotR k r) (s : State) :
    let x := rotate k (s.reg r) s.flagC
    exec i s = .next { s.setReg r x.1 with f := flagByte (decide (x.1 = 0#8)) false false x.2, tcycles := 8 } := by
  intro x
  rw [← beq_eq_decide]
  exact (exec_of_form_eq hform s).trans (complete_writeZNHC 8 (x.1 == 0#8) false false x.2 (s.setReg r x.1))

/-- A rotate of memory (R91) is one read, one write of the same address and one write of F; its cost counts the byte
0xCB too (R202). -/
theorem exec_of_cbRotHl (hform : i.form = .cbRotHl k) (s : State) :
    let hl := join16 s.h s.l
    let v := s.mem.read hl
    let x := rotate k v s.flagC
    exec i s = .next { s with
      f := flagByte (decide (x.1 = 0#8)) false false x.2
      mem := s.mem.write hl x.1
      port := s.port ++ [.read hl v, .write hl x.1]
      tcycles := 16 } := by
  intro hl v x
  have hport : s.port ++ [.read hl v, .write hl x.1] = s.port ++ [.read hl v] ++ [.write hl x.1] := by simp
  rw [← beq_eq_decide, hport]
  exact (exec_of_form_eq hform s).trans
    (complete_writeZNHC 16 (x.1 == 0#8) false false x.2 ((s.memRead hl).2.memWrite hl x.1))

end Exec

/-- Settles O35: the byte is the rotate of A through carry (`rl8`, `rr8`), whose bits the lemmas on the functions
give. -/
theorem rotateAccumulatorThroughCarry : Obligations.RotateAccumulatorThroughCarry := by
  unfold Obligations.RotateAccumulatorThroughCarry
  intro i s
  constructor
  · intro hleft
    refine ⟨(rl8 s.a s.flagC).1, fun k => rl8_getLsbD_succ s.a s.flagC, rl8_getLsbD_zero s.a s.flagC, ?_⟩
    exact (exec_of_form_eq hleft s).trans
      (complete_writeZNHC 4 false false false (s.a.getLsbD 7) { s with a := (rl8 s.a s.flagC).1 })
  · intro hright
    refine ⟨(rr8 s.a s.flagC).1, fun k => rr8_getLsbD_of_lt s.a s.flagC, rr8_getLsbD_seven s.a s.flagC, ?_⟩
    exact (exec_of_form_eq hright s).trans
      (complete_writeZNHC 4 false false false (s.a.getLsbD 0) { s with a := (rr8 s.a s.flagC).1 })

/-- Settles O36: the four kinds are `exec_of_cbRotR`, with the function that `rotate` gives each. -/
theorem rotateRegister : Obligations.RotateRegister := by
  unfold Obligations.RotateRegister
  intro i r s rotated
  refine ⟨fun hRlc => ?_, fun hRrc => ?_, fun hRl => ?_, fun hRr => ?_⟩
  · exact exec_of_cbRotR hRlc s
  · exact exec_of_cbRotR hRrc s
  · exact exec_of_cbRotR hRl s
  · exact exec_of_cbRotR hRr s

/-- Settles O37: the four kinds are `exec_of_cbRotHl`, with the function that `rotate` gives each. -/
theorem rotateMemory : Obligations.RotateMemory := by
  unfold Obligations.RotateMemory
  intro i s hl v rotated
  refine ⟨fun hRlc => ?_, fun hRrc => ?_, fun hRl => ?_, fun hRr => ?_⟩
  · exact exec_of_cbRotHl hRlc s
  · exact exec_of_cbRotHl hRrc s
  · exact exec_of_cbRotHl hRl s
  · exact exec_of_cbRotHl hRr s

end Sys2Proof.Machine
end

section
/-! Bit tests (R172, R173): the next state in full. -/

namespace Sys2Proof.Machine

/-- An operation whose last effect is a write of Z, N and Hf leaves them in F beside the Cy that stood there. -/
theorem complete_writeZNH (cost : Nat) (z n h : Bool) (s : State) :
    complete cost (s.writeZNH z n h) = .next { s with f := flagByte z n h s.flagC, tcycles := cost } := by
  rw [complete_eq, State.writeZNH_eq]

/-- Settles O38: both forms end in the same write of Z, N and Hf (`complete_writeZNH`), the memory form in the state
that its one read of HL leaves; each cost counts the byte 0xCB too. -/
theorem bitTest : Obligations.BitTest := by
  unfold Obligations.BitTest
  intro i n r s hl
  constructor
  · intro hR
    exact (exec_of_form_eq hR s).trans (complete_writeZNH 8 (!(s.reg r).getLsbD n) false true s)
  · intro hHl
    exact (exec_of_form_eq hHl s).trans
      (complete_writeZNH 12 (!(s.mem.read hl).getLsbD n) false true (s.memRead hl).2)

end Sys2Proof.Machine
end

section
/-! Relative jumps (R175, R176): the target as a number, and the next state in full. -/

namespace Sys2Proof.Machine

/-- The sum of words that a jump computes is the signed sum modulo 65536 (R12, R175): `sext_16` is the residue of the
signed offset, and residues add. -/
theorem add_sext16 (pc : Word) (i8 : Byte) : pc + sext16 i8 = BitVec.ofInt 16 (pc.toNat + i8.toInt) := by
  have hoffset : sext16 i8 = BitVec.ofInt 16 i8.toInt := rfl
  rw [BitVec.ofInt_add, BitVec.ofInt_natCast, BitVec.ofNat_toNat, BitVec.setWidth_eq, hoffset]

/-- A jump that is taken adds the signed offset to PC and reports `cost`. -/
theorem complete_jump (cost : Nat) (i8 : Byte) (s : State) :
    complete cost { s with pc := s.pc + sext16 i8 } =
      .next { s with pc := BitVec.ofInt 16 (s.pc.toNat + i8.toInt), tcycles := cost } := by
  rw [complete_eq, add_sext16]

/-- Settles O39: the format is one jump (`complete_jump`). -/
theorem jumpRelative : Obligations.JumpRelative := by
  unfold Obligations.JumpRelative
  intro i i8 s hform
  exact (exec_of_form_eq hform s).trans (complete_jump 12 i8 s)

/-- NZ and Z ask bit 7 of F, NC and C bit 4 (R34, R93, R176). -/
theorem State.holds_eq (s : State) (cc : Cond) : s.holds cc =
    match cc with
    | .nz => !s.f.getLsbD 7
    | .z => s.f.getLsbD 7
    | .nc => !s.f.getLsbD 4
    | .c => s.f.getLsbD 4 := by
  cases cc with
  | nz => exact congrArg not s.flagZ_eq
  | z => exact s.flagZ_eq
  | nc => exact congrArg not s.flagC_eq
  | c => exact s.flagC_eq

/-- Where the condition holds, the conditional jump is the jump of R175. -/
theorem jumpRelIf_of_holds {cc : Cond} {s : State} (hcc : s.holds cc = true) (i8 : Byte) (P : Params) :
    jumpRelIf cc i8 s P = complete (P.cost (.jrCc cc i8)) { s with pc := s.pc + sext16 i8 } := by
  rw [jumpRelIf_eq, if_pos hcc, if_pos hcc]

/-- Where it does not, the jump changes nothing and reports the other cost. -/
theorem jumpRelIf_of_not_holds {cc : Cond} {s : State} (hcc : ¬ s.holds cc = true) (i8 : Byte) (P : Params) :
    jumpRelIf cc i8 s P = complete (P.costNotTaken cc) s := by
  rw [jumpRelIf_eq, if_neg hcc, if_neg hcc]

/-- Settles O40: the condition on F's bit is the one the model asks (`State.holds_eq`), and by it the format is the jump
of R175 or nothing but a report. -/
theorem jumpRelativeOnCondition : Obligations.JumpRelativeOnCondition := by
  unfold Obligations.JumpRelativeOnCondition
  intro i cc i8 s hform cond
  have hcond : cond ↔ s.holds cc = true := by
    cases cc with
    | nz => simp [cond, State.holds_eq]
    | z => simp [cond, State.holds_eq]
    | nc => simp [cond, State.holds_eq]
    | c => simp [cond, State.holds_eq]
  rw [hcond]
  constructor
  · intro htaken
    have hjump := jumpRelIf_of_holds htaken i8 Params.default
    exact (exec_of_form_eq hform s).trans (hjump.trans (complete_jump 12 i8 s))
  · intro hnot
    have hstay := jumpRelIf_of_not_holds hnot i8 Params.default
    exact (exec_of_form_eq hform s).trans (hstay.trans (complete_eq 8 s))

end Sys2Proof.Machine
end

section
/-! Call, return, push, pop (R180 to R184): the next state in full, and a return as the inverse of a call. -/

namespace Sys2Proof.Machine

section Exec

variable {i : Instr} {p : Pair}

/-- CALL is one push of PC and a write of PC (R180). -/
theorem exec_of_call {u16 : Word} (hform : i.form = .call u16) (s : State) :
    exec i s = .next { s.push16 s.pc with pc := u16, tcycles := 24 } :=
  (exec_of_form_eq hform s).trans (complete_eq 24 { s.push16 s.pc with pc := u16 })

/-- RET is one pop into PC (R181). -/
theorem exec_of_ret (hform : i.form = .ret) (s : State) :
    exec i s = .next { s.pop16.2 with pc := s.pop16.1, tcycles := 16 } :=
  (exec_of_form_eq hform s).trans (complete_eq 16 { s.pop16.2 with pc := s.pop16.1 })

/-- PUSH rr is one push of the pair (R183). -/
theorem exec_of_push (hform : i.form = .push p) (s : State) :
    exec i s = .next { s.push16 (s.pair p) with tcycles := 16 } :=
  (exec_of_form_eq hform s).trans (complete_eq 16 (s.push16 (s.pair p)))

/-- POP rr is one pop into the pair (R184). -/
theorem exec_of_pop (hform : i.form = .pop p) (s : State) :
    exec i s = .next { s.pop16.2.setPair p s.pop16.1 with tcycles := 12 } :=
  (exec_of_form_eq hform s).trans (complete_eq 12 (s.pop16.2.setPair p s.pop16.1))

end Exec

/-- Settles O41, by what the push of PC does (`State.push16_eq`). -/
theorem callPushesReturnAddress : Obligations.CallPushesReturnAddress := by
  unfold Obligations.CallPushesReturnAddress
  intro i u16 s hform
  rw [exec_of_call hform, State.push16_eq]
  rfl

/-- Settles O42, by what the pop does (`State.pop16_eq`). -/
theorem returnPopsPc : Obligations.ReturnPopsPc := by
  unfold Obligations.ReturnPopsPc
  intro i s hform
  rw [exec_of_ret hform, State.pop16_eq]
  rfl

/-- Settles O43: the return from an exception is the pop of RET with IME set and EI_DELAY cleared
(`State.returnFromInterrupt_eq`). -/
theorem returnFromInterruptSetsIme : Obligations.ReturnFromInterruptSetsIme := by
  unfold Obligations.ReturnFromInterruptSetsIme
  intro i s hform
  have hexec := (exec_of_form_eq hform s).trans (complete_eq 16 (s.returnFromInterrupt Params.default))
  rw [hexec, State.returnFromInterrupt_eq, State.pop16_eq]
  rfl

/-- Settles O44, by what the push of a pair does (`State.push16_eq`): its high byte is the first-named register. -/
theorem pushStoresPair : Obligations.PushStoresPair := by
  unfold Obligations.PushStoresPair
  intro i s pushed
  have hpush {p : Pair} {hi lo : Byte} (hpair : s.pair p = join16 hi lo) (hform : i.form = .push p) :
      exec i s = .next (pushed hi lo) := by
    rw [exec_of_push hform, State.push16_eq, hpair, hi8_join16, lo8_join16]
    rfl
  exact ⟨hpush rfl, hpush rfl, hpush rfl, hpush rfl⟩

/-- Settles O45, by what the pop does (`State.pop16_eq`): the write of a pair is the word's high and low byte to the
pair's two registers, for AF through F's write port. -/
theorem popLoadsPair : Obligations.PopLoadsPair := by
  unfold Obligations.PopLoadsPair
  intro i s lo hi u
  have hpop {p : Pair} (hform : i.form = .pop p) : exec i s = .next (u.setPair p (join16 hi lo)) := by
    rw [exec_of_pop hform, State.pop16_eq]
    cases p <;> rfl
  refine ⟨fun hBc => ?_, fun hDe => ?_, fun hHl => ?_, fun hAf => ?_⟩
  · rw [hpop hBc, State.setPair, hi8_join16, lo8_join16]
  · rw [hpop hDe, State.setPair, hi8_join16, lo8_join16]
  · rw [hpop hHl, State.setPair, hi8_join16, lo8_join16]
  · rw [hpop hAf, State.setPair, hi8_join16, lo8_join16]
    rfl

/-- Settles O46: the CALL leaves the stack as a push of PC does and the RET answers the word a pop reads there, so that
the law of a pop after a push (O19) gives both. -/
theorem returnUndoesCall : Obligations.ReturnUndoesCall := by
  unfold Obligations.ReturnUndoesCall
  intro i j u16 s t v w hi hj hs hcall hsp hlow hhigh hret
  obtain ⟨-, hundo⟩ := pop16UndoesPush16
  rw [← hsp] at hlow hhigh
  obtain rfl := Host.Outcome.next.inj ((exec_of_call hi s).symm.trans hcall)
  obtain rfl := Host.Outcome.next.inj ((exec_of_ret hj v).symm.trans hret)
  exact hundo s v s.pc hs hsp hlow hhigh

end Sys2Proof.Machine
end

section
/-! The prefix and the interrupt-enable toggles (R200 to R202): the next state in full. -/

namespace Sys2Proof.Machine

/-- The rows of the prefixed table that fail are those of R97's two ranges. -/
theorem decodePrefixed_failure_eq_some {op2 : Byte} {r : Fault} :
    (decodePrefixed op2).form.failure = some r ↔ noEntryPrefixedByte op2 ∧ r = .unimplementedOpcode true op2 := by
  have hbase : ¬ 0xCB#8 ∈ noEntryBaseBytes := by decide
  have hbytes : decodePrefixed op2 = decodeBytes 0xCB#8 op2 0#8 := rfl
  rw [hbytes, decodeBytes_failure_eq_some]
  simp [hbase]

/-- Settles O4: the bare prefix executes as its entry (`execForm_entry`), which fails or completes by its row. -/
theorem prefixExecutesTheEntryOfItsSecondByte : Obligations.PrefixExecutesTheEntryOfItsSecondByte := by
  unfold Obligations.PrefixExecutesTheEntryOfItsSecondByte
  intro op2 s
  have hentry : exec (.prefixCB op2) s = execForm (decodePrefixed op2).form s Params.default :=
    (exec_eq_execForm ..).trans (execForm_entry ..)
  obtain ⟨hprefix, -, -⟩ := decodePrefixed_frame op2
  rw [hentry]
  refine ⟨(exec_eq_execForm ..).symm, fun hsome => ?_, fun hnone => ?_⟩
  · obtain ⟨-, hnext⟩ | ⟨r, hr, -⟩ := execForm_outcome hprefix s Params.default
    · exact hnext
    · obtain ⟨hrange, -⟩ := decodePrefixed_failure_eq_some.mp hr
      exact absurd hrange hsome
  · rw [decodePrefixed_form_eq_noEntryCb.mpr ⟨hnone, rfl⟩]
    rfl

/-- Settles O47: DI is one write of IME and EI_DELAY, EI one write of EI_DELAY (`enableIrq_eq`), which rewrites a
running count with its own value. -/
theorem interruptEnableToggles : Obligations.InterruptEnableToggles := by
  unfold Obligations.InterruptEnableToggles
  intro i s
  have hei (hform : i.form = .ei) : exec i s =
      .next { s with eiDelay := if s.eiDelay = 0 then 2 else s.eiDelay, tcycles := 4 } :=
    (exec_of_form_eq hform s).trans (enableIrq_eq s Params.default)
  refine ⟨fun hform => ?_, fun hform hzero => ?_, fun hform hcount => ?_⟩
  · exact (exec_of_form_eq hform s).trans (complete_eq 4 { s with ime := false, eiDelay := 0 })
  · rw [hei hform, if_pos hzero]
  · rw [hei hform, if_neg hcount]

end Sys2Proof.Machine
end

section
/-! The end of a step (R222 to R224, R231, R232): the charge, the EI-delay tick and the interrupt check, each clause of
them as an equation. -/

namespace Sys2Proof.Machine

/-! ## The charge -/

/-- Settles O54: the two branches of `State.charge_eq`; with the flat memory a tick carries the 256 that ACC gives up
into DIV. -/
theorem chargeAdvancesTheDividerCount : Obligations.ChargeAdvancesTheDividerCount := by
  unfold Obligations.ChargeAdvancesTheDividerCount
  intro P s n hn div
  have hacc := s.acc.isLt
  have hcount (h : s.acc.toNat + n ≤ 255) : s.charge n P = { s with acc := s.acc + BitVec.ofNat 8 n } := by
    rw [State.charge_eq, if_neg (Nat.not_lt.mpr h), BitVec.ofNat_add, BitVec.ofNat_toNat, BitVec.setWidth_eq]
  have htick (h : 255 < s.acc.toNat + n) : s.charge n P = { s with
      acc := BitVec.ofNat 8 (s.acc.toNat + n - 256)
      mem := P.mem.write div.2 0xFF04#16 (div.1 + 1#8)
      port := s.port ++ [.read 0xFF04#16 div.1, .write 0xFF04#16 (div.1 + 1#8)] } :=
    (State.charge_eq n s P).trans (if_pos h)
  refine ⟨hcount, htick, fun hP hs => ?_⟩
  have hdiv : div = (s.mem.read 0xFF04#16, s.mem) := by simp only [div, hP, Mem.flat_read]
  have hbyte := (s.mem.read 0xFF04#16).isLt
  obtain h | h := Nat.lt_or_ge 255 (s.acc.toNat + n)
  · simp only [htick h, hdiv, hP, Mem.flat_write, Memory.read_write_self hs, BitVec.toNat_add, BitVec.toNat_ofNat]
    omega
  · simp only [hcount h, hdiv, BitVec.toNat_add, BitVec.toNat_ofNat]
    omega

/-! ## The EI-delay tick -/

/-- Settles O55, by the three values of the count. -/
theorem eiDelayTick : Obligations.EiDelayTick := by
  unfold Obligations.EiDelayTick
  intro s
  refine ⟨fun hzero => ?_, fun hone => ?_, fun htwo => ?_⟩
  · rw [State.eiDelayTick, hzero]
  · rw [State.eiDelayTick, hone]
  · rw [State.eiDelayTick, htwo]

/-! ## The interrupt check -/

/-- Source i is set in both bytes that the check reads, IF and IE as `MEM` answers them (R221). -/
def State.asks (s : State) (P : Params) (i : Source) : Prop :=
  (s.readIfIe P).1.getLsbD i.bit = true ∧ (s.readIfIe P).2.1.getLsbD i.bit = true

/-- With the flat memory those are the bytes that memory holds. -/
theorem State.asks_flat {P : Params} (hP : P.mem = Mem.flat) (s : State) (i : Source) :
    s.asks P i ↔ s.requests i := by
  simp [State.asks, State.requests, hP]

section Check

variable {s : State} {P : Params}

theorem State.isIn_pending_iff_asks (i : Source) :
    i.isIn ((s.readIfIe P).1 &&& (s.readIfIe P).2.1 &&& 0x1F#8) = true ↔ s.asks P i := by
  rw [Source.isIn_pending, Bool.and_eq_true, State.asks]

theorem State.isIn_pending_eq_false_iff (i : Source) :
    i.isIn ((s.readIfIe P).1 &&& (s.readIfIe P).2.1 &&& 0x1F#8) = false ↔ ¬s.asks P i := by
  rw [← State.isIn_pending_iff_asks, Bool.not_eq_true]

/-- With IME 0 the check changes nothing. -/
theorem State.interruptCheck_of_ime_false (hime : s.ime = false) : s.interruptCheck P = s := by
  obtain ⟨-, h⟩ | ⟨h, -⟩ | ⟨h, -⟩ := s.interruptCheck_cases P
  · exact h
  · simp [hime] at h
  · simp [hime] at h

/-- With IME 1 and no request the check is its two reads. -/
theorem State.interruptCheck_of_no_request (hime : s.ime = true) (hno : ∀ i, ¬s.asks P i) :
    s.interruptCheck P = (s.readIfIe P).2.2 := by
  have hnone : leastPending ((s.readIfIe P).1 &&& (s.readIfIe P).2.1 &&& 0x1F#8) = none :=
    (leastPending_eq_none _).mpr fun i => (State.isIn_pending_eq_false_iff i).mpr (hno i)
  obtain ⟨h, -⟩ | ⟨-, -, h⟩ | ⟨-, i, h, -⟩ := s.interruptCheck_cases P
  · simp [hime] at h
  · exact h
  · cases hnone.symm.trans h

/-- With IME 1 and a request the check dispatches the request of lowest bit number. -/
theorem State.interruptCheck_of_least {i : Source} (hime : s.ime = true) (hi : s.asks P i)
    (hleast : ∀ j : Source, j.bit < i.bit → ¬s.asks P j) :
    s.interruptCheck P = (s.readIfIe P).2.2.dispatch i (s.readIfIe P).1 P := by
  have hsome : leastPending ((s.readIfIe P).1 &&& (s.readIfIe P).2.1 &&& 0x1F#8) = some i :=
    (leastPending_eq_some _ i).mpr ⟨(State.isIn_pending_iff_asks i).mpr hi,
      fun j hj => (State.isIn_pending_eq_false_iff j).mpr (hleast j hj)⟩
  obtain ⟨h, -⟩ | ⟨-, h, -⟩ | ⟨-, j, hj, h⟩ := s.interruptCheck_cases P
  · simp [hime] at h
  · cases hsome.symm.trans h
  · obtain rfl : i = j := Option.some.inj (hsome.symm.trans hj)
    exact h

end Check

/-- The byte that a dispatch writes back to IF: bit i cleared, the other seven as read. -/
theorem getLsbD_clear_bit (v : Byte) (i : Source) {k : Nat} (hk : k < 8) :
    (v &&& ~~~(1#8 <<< i.bit)).getLsbD k = (v.getLsbD k && decide (k ≠ i.bit)) := by
  have hbit : (1#8 <<< i.bit).getLsbD k = decide (k = i.bit) := by
    rw [Bool.eq_iff_iff, BitVec.getLsbD_shiftLeft, BitVec.getLsbD_one]
    simp only [Bool.and_eq_true, Bool.not_eq_true', decide_eq_true_eq, decide_eq_false_iff_not]
    omega
  rw [BitVec.getLsbD_and, BitVec.getLsbD_not, hbit, decide_eq_true hk, Bool.true_and, decide_not]

/-- Settles O56: the three clauses are the three lemmas on the check; what a dispatch does is `State.dispatch_eq`. -/
theorem interruptCheckDispatchesTheLowestRequest : Obligations.InterruptCheckDispatchesTheLowestRequest := by
  unfold Obligations.InterruptCheckDispatchesTheLowestRequest
  intro P s ifv iev requests
  have hport (l : List Access) : s.port ++ [.read 0xFF0F#16 ifv.1] ++ [.read 0xFFFF#16 iev.1] ++ l =
      s.port ++ .read 0xFF0F#16 ifv.1 :: .read 0xFFFF#16 iev.1 :: l := by simp
  refine ⟨State.interruptCheck_of_ime_false, fun hime hno => ?_, fun i hime hi hleast => ?_⟩
  · rw [State.interruptCheck_of_no_request hime hno, ← hport, List.append_nil]
    rfl
  · refine ⟨ifv.1 &&& ~~~(1#8 <<< i.bit), fun k hk => getLsbD_clear_bit ifv.1 i hk, ?_⟩
    rw [State.interruptCheck_of_least hime hi hleast, State.dispatch_eq, ← hport]
    rfl

end Sys2Proof.Machine
end

section
/-! The state that a completed format leaves and the cost it reports (R104), and that neither depends on the cycle
accumulator (R265). -/

namespace Sys2Proof

open Machine

/-! ## The cost and the state of a completed format -/

/-- The T-cycles that a format with an entry reports (R104): a conditional jump by its condition (R176), a prefixed
entry with the prefix's 4 (R202), and every other format its COST. -/
def Form.reported (s : State) (P : Params) : Form → Nat
  | .jrCc cc i8 => if s.holds cc then P.cost (.jrCc cc i8) else P.costNotTaken cc
  | .cbRotR k src => Cost.pfx + P.cost (.cbRotR k src)
  | .cbRotHl k => Cost.pfx + P.cost (.cbRotHl k)
  | .cbBitR n src => Cost.pfx + P.cost (.cbBitR n src)
  | .cbBitHl n => Cost.pfx + P.cost (.cbBitHl n)
  | f => P.cost f

/-- A format that raises nothing completes with `Form.after` and reports `Form.reported`. -/
theorem execForm_of_failure_none {f : Form} (hf : f.notBarePrefix = true) (hnone : f.failure = none) (s : State)
    (P : Params) : execForm f s P = .next { f.after s P with tcycles := f.reported s P } := by
  cases f with
  | prefixCb => cases hf
  | noEntry => cases hnone
  | noEntryCb => cases hnone
  | rotA dir => cases dir <;> rfl
  | jrCc cc i8 => exact jumpRelIf_eq cc i8 s P
  | ei => exact enableIrq_eq s P
  | _ => rfl

/-- What completes raises nothing. -/
theorem failure_none_of_next {f : Form} (hf : f.notBarePrefix = true) {s t : State} {P : Params}
    (h : execForm f s P = .next t) : f.failure = none := by
  obtain ⟨hnone, -⟩ | ⟨r, -, hr⟩ := execForm_outcome hf s P
  · exact hnone
  · cases hr.symm.trans h

/-- COST's defaults over the instruction set (R104), the prefix's 4 among them. -/
theorem Form.reported_default {f : Form} (hf : f.notBarePrefix = true) (hnone : f.failure = none) (s : State) :
    f.reported s Params.default ∈ [4, 8, 12, 16, 24] := by
  cases f with
  | prefixCb => cases hf
  | noEntry => cases hnone
  | noEntryCb => cases hnone
  | jrCc cc i8 => simp only [Form.reported]; split <;> simp
  | _ => simp [Form.reported]

/-- Of the parameters only `MEM` reaches the state that a format leaves. -/
theorem Form.after_congr {P Q : Params} (hPQ : P.mem = Q.mem) (f : Form) (s : State) : f.after s P = f.after s Q := by
  have hread (a : Word) (u : State) : u.memRead a P = u.memRead a Q := by simp only [State.memRead, hPQ]
  have hwrite (a : Word) (v : Byte) (u : State) : u.memWrite a v P = u.memWrite a v Q := by
    simp only [State.memWrite, hPQ]
  have hpush (w : Word) : s.push16 w P = s.push16 w Q := by simp only [State.push16_eq, hPQ]
  have hpop : s.pop16 P = s.pop16 Q := by simp only [State.pop16_eq, hPQ]
  cases f with
  | ldRHl | ldARr | aluHl | cbBitHl | ldhAA8 | ldAC | ldAA16 => simp only [Form.after, hread]
  | ldHlR | ldRrA | ldhA8A | ldCA | ldA16A => simp only [Form.after, hwrite]
  | cbRotHl => simp only [Form.after, hread, hwrite]
  | push | call => simp only [Form.after, hpush]
  | ret | reti | pop => simp only [Form.after, State.returnFromInterrupt_eq, hpop]
  | _ => rfl

end Sys2Proof

namespace Sys2Proof.Machine

/-- COST and VEC reach nothing of an execution but its report (R104). -/
theorem execForm_congr {P Q : Params} (hPQ : P.mem = Q.mem) {f : Form} {s t : State} (h : execForm f s P = .next t) :
    ∃ n, execForm f s Q = .next { t with tcycles := n } := by
  rw [execForm_entry] at h ⊢
  have hf := f.entry_notBarePrefix
  have hnone := failure_none_of_next hf h
  rw [execForm_of_failure_none hf hnone] at h ⊢
  obtain rfl := Host.Outcome.next.inj h
  exact ⟨_, by rw [Form.after_congr hPQ]⟩

/-! ## The accumulator -/

/-- The state with another cycle accumulator (R42). -/
def State.withAcc (x : Byte) (s : State) : State := { s with acc := x }

section WithAcc

variable (x : Byte) (s : State) (P : Params)

@[simp] theorem State.withAcc_a : (s.withAcc x).a = s.a := rfl
@[simp] theorem State.withAcc_c : (s.withAcc x).c = s.c := rfl
@[simp] theorem State.withAcc_flagC : (s.withAcc x).flagC = s.flagC := rfl
@[simp] theorem State.withAcc_addrHL : (s.withAcc x).addrHL = s.addrHL := rfl

@[simp] theorem State.withAcc_reg (r : Reg8) : (s.withAcc x).reg r = s.reg r := by cases r <;> rfl
@[simp] theorem State.withAcc_pair (p : Pair) : (s.withAcc x).pair p = s.pair p := by cases p <;> rfl
@[simp] theorem State.withAcc_reg16 (rr : Reg16) : (s.withAcc x).reg16 rr = s.reg16 rr := by cases rr <;> rfl
@[simp] theorem State.withAcc_addrInd (p : IndPair) : (s.withAcc x).addrInd p = s.addrInd p := by cases p <;> rfl
@[simp] theorem State.withAcc_holds (cc : Cond) : (s.withAcc x).holds cc = s.holds cc := by cases cc <;> rfl

@[simp] theorem State.memRead_withAcc (a : Word) :
    (s.withAcc x).memRead a P = ((s.memRead a P).1, (s.memRead a P).2.withAcc x) := rfl

@[simp] theorem State.memWrite_withAcc (a : Word) (v : Byte) :
    (s.withAcc x).memWrite a v P = (s.memWrite a v P).withAcc x := rfl

@[simp] theorem State.push16_withAcc (w : Word) : (s.withAcc x).push16 w P = (s.push16 w P).withAcc x := rfl

@[simp] theorem State.pop16_withAcc :
    (s.withAcc x).pop16 P = ((s.pop16 P).1, (s.pop16 P).2.withAcc x) := rfl

@[simp] theorem State.setReg_withAcc (r : Reg8) (v : Byte) :
    (s.withAcc x).setReg r v = (s.setReg r v).withAcc x := by cases r <;> rfl

@[simp] theorem State.setPair_withAcc (p : Pair) (w : Word) :
    (s.withAcc x).setPair p w = (s.setPair p w).withAcc x := by cases p <;> rfl

@[simp] theorem State.setReg16_withAcc (rr : Reg16) (w : Word) :
    (s.withAcc x).setReg16 rr w = (s.setReg16 rr w).withAcc x := by cases rr <;> rfl

@[simp] theorem State.writeZNH_withAcc (z n h : Bool) :
    (s.withAcc x).writeZNH z n h = (s.writeZNH z n h).withAcc x := by
  rw [State.writeZNH_eq, State.writeZNH_eq, State.withAcc_flagC]
  rfl

@[simp] theorem State.writeZNHC_withAcc (z n h c : Bool) :
    (s.withAcc x).writeZNHC z n h c = (s.writeZNHC z n h c).withAcc x := by
  rw [State.writeZNHC_eq, State.writeZNHC_eq]
  rfl

@[simp] theorem State.alu_withAcc (op : AluOp) (v : Byte) :
    (s.withAcc x).alu op v = (s.alu op v).withAcc x := by
  cases op with
  | add | sub => exact State.writeZNHC_withAcc x { s with a := _ } _ _ _ _
  | cp => exact State.writeZNHC_withAcc x s _ _ _ _

/-- No format's effect depends on ACC. -/
theorem Form.after_withAcc (f : Form) : f.after (s.withAcc x) P = (f.after s P).withAcc x := by
  cases f with
  | jr | ret | reti | call | di | ei => rfl
  | jrCc =>
    simp only [Form.after, State.withAcc_holds]
    rfl
  | _ => simp [Form.after]

theorem Form.reported_withAcc (f : Form) : f.reported (s.withAcc x) P = f.reported s P := by
  cases f with
  | jrCc => simp only [Form.reported, State.withAcc_holds]
  | _ => rfl

end WithAcc

/-- Settles O53: an execution that fails names its byte, whatever the state; one that completes leaves a state and
reports a cost that do not depend on ACC. -/
theorem executionDoesNotReadTheAccumulator : Obligations.ExecutionDoesNotReadTheAccumulator := by
  unfold Obligations.ExecutionDoesNotReadTheAccumulator
  intro blind
  have hblind (P : Params) (f : Form) : blind (fun s => execForm f s P) := by
    intro s x
    change execForm f (s.withAcc x) P = _
    simp only [execForm_entry f]
    have hf := f.entry_notBarePrefix
    obtain ⟨hnone, -⟩ | ⟨r, hr, hs⟩ := execForm_outcome hf s P
    · simp only [execForm_of_failure_none hf hnone, Form.after_withAcc, Form.reported_withAcc]
      rfl
    · obtain ⟨hnone, -⟩ | ⟨q, hq, hx⟩ := execForm_outcome hf (s.withAcc x) P
      · cases hnone.symm.trans hr
      · simp only [hs, hx, Option.some.inj (hq.symm.trans hr)]
  refine ⟨fun i => ?_, hblind⟩
  rw [funext (exec_eq_execForm i)]
  exact hblind Params.default i.form

end Sys2Proof.Machine
end

section
/-! A whole step over the flat memory (R230), and the delay of EI over whole steps (R200, R201, R255). -/

namespace Sys2Proof.Machine

/-! ## A step over the flat memory -/

/-- `exec` as a function is the execute phase at the defaults of R8. -/
theorem exec_eq_default : exec = fun i s => execForm i.form s Params.default := funext₂ exec_eq_execForm

/-- `step` as a function is the step at the defaults of R8. -/
theorem step_eq_default : step = fun s => stepWith s Params.default := funext step_eq_stepWith

/-- Phase 1 over the flat memory: PC past the instruction at PC, its bytes read in order, and nothing reported. -/
def State.fetched (s : State) : State := { s with
  pc := s.pc + BitVec.ofNat 16 (encode s.instrAtPc).length
  port := (List.range (encode s.instrAtPc).length).map
    (fun k => .read (s.pc + BitVec.ofNat 16 k) (s.mem.read (s.pc + BitVec.ofNat 16 k)))
  tcycles := 0 }

theorem State.fetched_pc (s : State) : s.fetched.pc = s.pc + BitVec.ofNat 16 (encode s.instrAtPc).length := rfl

/-- An instruction is as long as its opcode byte says (R92). -/
theorem encode_instrAtPc_length (s : State) :
    (encode s.instrAtPc).length = 1 + operandCount (s.mem.read s.pc) := by
  rw [State.instrAtPc, encodeOfDecodeIsTheFetchedBytes, List.length_take]
  obtain h | h | h := operandCount_cases (s.mem.read s.pc) <;> rw [h] <;> rfl

/-- `decode` accepts any three bytes, as the instruction that `decodeBytes` reads. -/
theorem decode_three (op x y : Byte) : ∃ rest, decode [op, x, y] = .ok (decodeBytes op x y) rest := by
  refine ⟨[op, x, y].drop (1 + operandCount op), ?_⟩
  rw [← decode_take, List.take_append_drop]

section Flat

variable {s t : State} {P : Params} (hP : P.mem = Mem.flat)

include hP

/-- Phase 1 fetches the instruction at PC and leaves `State.fetched`. -/
theorem fetchInstr_flat (s : State) : s.beginStep.fetchInstr P = (s.instrAtPc, s.fetched) := by
  rw [State.fetchInstr_eq _ hP, State.fetched, encode_instrAtPc_length]
  rfl

/-- A step whose instruction completes with `t` is the end of the step from `t`. -/
theorem stepWith_of_next (h : execForm s.instrAtPc.form s.fetched P = .next t) :
    stepWith s P = .next (t.endOfStep P) := by
  simp only [stepWith, fetchInstr_flat hP, h]

end Flat

/-- Settles O7: the decoded instruction is the one at PC, and phase 1 leaves the state named (`fetchInstr_flat`). -/
theorem stepRunsTheDecodedInstruction : Obligations.StepRunsTheDecodedInstruction := by
  unfold Obligations.StepRunsTheDecodedInstruction
  intro runs
  have hwith (P : Params) (hP : P.mem = Mem.flat) :
      runs P (fun i s => execForm i.form s P) (fun s => stepWith s P) := by
    intro s i rest hdecode
    obtain ⟨rest', hbytes⟩ := decode_three (s.mem.read s.pc) (s.mem.read (s.pc + 1#16)) (s.mem.read (s.pc + 2#16))
    obtain ⟨rfl, -⟩ := Decoded.ok.inj (hbytes.symm.trans hdecode)
    simp only [stepWith, fetchInstr_flat hP]
    rfl
  refine ⟨?_, hwith, exec_eq_execForm, step_eq_stepWith⟩
  rw [exec_eq_default, step_eq_default]
  exact hwith Params.default rfl

/-! ## EI's delay over whole steps -/

/-- A pending EI is counted, and an IME already set stays set. -/
theorem State.eiDelayTick_of_enabling {s : State} (h : s.eiDelay = 1 ∨ s.ime = true ∧ s.eiDelay = 0) :
    s.eiDelayTick = { s with ime := true, eiDelay := 0 } := by
  obtain hone | ⟨hime, hzero⟩ := h
  · simp [State.eiDelayTick_eq, hone]
  · simp [State.eiDelayTick_eq, hime, hzero]

/-- An instruction other than DI keeps a pending EI, or is RETI, which sets IME itself. -/
theorem execForm_pending {i : Instr} {s t : State} {P : Params} (hi : i ≠ .di) (hs : s.eiDelay = 1)
    (h : execForm i.form s P = .next t) : t.eiDelay = 1 ∨ t.ime = true ∧ t.eiDelay = 0 := by
  cases hw : i.form.writesIme with
  | false =>
    obtain ⟨-, hdelay⟩ := execForm_ime h (by simpa using hw)
    exact .inl (hdelay.trans hs)
  | true =>
    obtain rfl | rfl | rfl := instr_of_writesIme hw
    · exact absurd rfl hi
    · obtain ⟨-, hdelay⟩ := execForm_ei h
      exact .inl (by simp [hdelay, hs])
    · exact .inr (execForm_reti h)

/-- The step's end after an instruction that leaves IME 0 and no EI about to take effect: the check reads nothing, so
nothing is dispatched. -/
theorem State.endOfStep_of_ime_false {s : State} {P : Params} (hime : s.ime = false) (hdelay : s.eiDelay ≠ 1) :
    s.endOfStep P = (s.charge s.tcycles P).eiDelayTick :=
  State.interruptCheck_of_ime_false (by simp [hime, hdelay])

section Flat

variable {s u : State} {P : Params} (hP : P.mem = Mem.flat)

include hP

/-- A step whose instruction leaves IME 0 and no EI about to take effect completes as the instruction left it, with the
EI delay counted: nothing is dispatched. -/
theorem stepWith_of_ime_false (h : execForm s.instrAtPc.form s.fetched P = .next u) (hime : u.ime = false)
    (hdelay : u.eiDelay ≠ 1) : ∃ t, stepWith s P = .next t ∧ t.ime = false ∧
      (t.eiDelay = if u.eiDelay = 2 then 1 else 0) ∧ t.pc = u.pc ∧ t.tcycles = u.tcycles := by
  refine ⟨u.endOfStep P, stepWith_of_next hP h, ?_⟩
  rw [State.endOfStep_of_ime_false hime hdelay]
  simp [hime, hdelay]

/-- The step on EI, none pending (R201). -/
theorem stepWith_ei (hei : s.instrAtPc = .ei) (hime : s.ime = false) (hzero : s.eiDelay = 0) :
    ∃ t, stepWith s P = .next t ∧ t.ime = false ∧ t.eiDelay = 1 ∧ t.pc = s.pc + 1#16 ∧ t.tcycles = P.cost .ei := by
  have hexec : execForm s.instrAtPc.form s.fetched P =
      .next { s.fetched with eiDelay := if s.eiDelay = 0 then 2 else s.eiDelay, tcycles := P.cost .ei } := by
    rw [hei]
    exact enableIrq_eq s.fetched P
  rw [if_pos hzero] at hexec
  have hpc : s.fetched.pc = s.pc + 1#16 := by rw [State.fetched_pc, hei]; rfl
  rw [← hpc]
  exact stepWith_of_ime_false hP hexec hime (show (2 : Fin 3) ≠ 1 by decide)

/-- The step on DI (R200). -/
theorem stepWith_di (hdi : s.instrAtPc = .di) :
    ∃ t, stepWith s P = .next t ∧ t.ime = false ∧ t.eiDelay = 0 ∧ t.pc = s.pc + 1#16 ∧ t.tcycles = P.cost .di := by
  have hexec : execForm s.instrAtPc.form s.fetched P =
      .next { s.fetched with ime := false, eiDelay := 0, tcycles := P.cost .di } := by
    rw [hdi]
    rfl
  have hpc : s.fetched.pc = s.pc + 1#16 := by rw [State.fetched_pc, hdi]; rfl
  rw [← hpc]
  exact stepWith_of_ime_false hP hexec rfl (show (0 : Fin 3) ≠ 1 by decide)

/-- The step after EI's own, on anything but DI: IME is 1 for its interrupt check (R201, R255). -/
theorem stepWith_next_of_pending {t : State} (hone : s.eiDelay = 1) (hi : s.instrAtPc ≠ .di)
    (h : stepWith s P = .next t) :
    ∃ u, execForm s.instrAtPc.form (s.beginStep.fetchInstr P).2 P = .next u ∧
      t = State.interruptCheck { u.charge u.tcycles P with ime := true, eiDelay := 0 } P := by
  obtain ⟨u, hu, rfl⟩ := stepWith_next_flat hP h
  have hleft : u.eiDelay = 1 ∨ u.ime = true ∧ u.eiDelay = 0 := execForm_pending hi (by simpa using hone) hu
  refine ⟨u, hu, ?_⟩
  rw [State.endOfStep, State.eiDelayTick_of_enabling (by simpa using hleft)]

end Flat

/-- Settles O58, by the step on EI, the step after it, and the step on DI. -/
theorem eiTakesEffectAfterTheNextInstruction : Obligations.EiTakesEffectAfterTheNextInstruction := by
  unfold Obligations.EiTakesEffectAfterTheNextInstruction
  intro rule
  have hwith (P : Params) (hP : P.mem = Mem.flat) :
      rule P (fun i s => execForm i.form s P) (fun s => stepWith s P) := fun _ =>
    ⟨stepWith_ei hP, fun hone hi _ => stepWith_next_of_pending hP hone hi, stepWith_di hP⟩
  refine ⟨rfl, rfl, ?_, hwith⟩
  rw [exec_eq_default, step_eq_default]
  exact hwith Params.default rfl

end Sys2Proof.Machine
end

section
/-! What a step reports: its instruction's cost, and a dispatch's (R104, R265). -/

namespace Sys2Proof.Machine

/-- The check adds 20 T-cycles to the report when it dispatches. -/
theorem State.interruptCheck_tcycles_of_asks {s : State} {P : Params} (hime : s.ime = true) (h : ∃ i, s.asks P i) :
    (s.interruptCheck P).tcycles = s.tcycles + 20 := by
  obtain ⟨hno, -⟩ | ⟨-, hno, -⟩ | ⟨-, i, -, hi⟩ := s.interruptCheck_cases P
  · simp [hime] at hno
  · obtain ⟨i, hi⟩ := h
    rw [leastPending_eq_none] at hno
    exact absurd hi ((State.isIn_pending_eq_false_iff i).mp (hno i))
  · rw [hi]
    simp

/-- It adds nothing when it does not. -/
theorem State.interruptCheck_tcycles_of_not {s : State} {P : Params} (h : ¬(s.ime = true ∧ ∃ i, s.asks P i)) :
    (s.interruptCheck P).tcycles = s.tcycles := by
  cases hime : s.ime with
  | false => rw [State.interruptCheck_of_ime_false hime]
  | true =>
    have hno : ∀ i, ¬s.asks P i := fun i hi => h ⟨hime, i, hi⟩
    rw [State.interruptCheck_of_no_request hime hno]
    rfl

/-- What an execution reports by COST's defaults. -/
theorem execForm_default_tcycles {f : Form} {s t : State} (h : execForm f s Params.default = .next t) :
    t.tcycles ∈ [4, 8, 12, 16, 24] := by
  rw [execForm_entry] at h
  have hf := f.entry_notBarePrefix
  have hnone := failure_none_of_next hf h
  obtain rfl := Host.Outcome.next.inj ((execForm_of_failure_none hf hnone s Params.default).symm.trans h)
  exact Form.reported_default hf hnone s

/-- The report of a whole step: the instruction's, and the check's 20 T-cycles when it dispatches. -/
theorem stepWith_tcycles {s t : State} {P : Params} (hP : P.mem = Mem.flat) (h : stepWith s P = .next t) :
    ∃ u, execForm s.instrAtPc.form (s.beginStep.fetchInstr P).2 P = .next u ∧
      let v := (u.charge u.tcycles P).eiDelayTick
      ((v.ime = true ∧ ∃ i, v.requests i) → t.tcycles = u.tcycles + 20) ∧
      (¬(v.ime = true ∧ ∃ i, v.requests i) → t.tcycles = u.tcycles) := by
  obtain ⟨u, hu, rfl⟩ := stepWith_next_flat hP h
  refine ⟨u, hu, ?_⟩
  intro v
  have hv : v.tcycles = u.tcycles := by simp [v]
  have hend : u.endOfStep P = v.interruptCheck P := rfl
  simp only [← State.asks_flat hP, hend, ← hv]
  exact ⟨fun ⟨hime, hasks⟩ => State.interruptCheck_tcycles_of_asks hime hasks,
    State.interruptCheck_tcycles_of_not⟩

/-- Settles O59: the report of a step is `stepWith_tcycles`, that of its instruction at the defaults
`execForm_default_tcycles`, and the bounds are their least and greatest sum. -/
theorem stepReportsItsCost : Obligations.StepReportsItsCost := by
  unfold Obligations.StepReportsItsCost
  intro rule
  have hwith (P : Params) (hP : P.mem = Mem.flat) (costs : Nat → Prop)
      (hcosts : ∀ (f : Form) (s u : State), execForm f s P = .next u → costs u.tcycles) :
      rule P (fun i s => execForm i.form s P) (fun s => stepWith s P) costs := by
    intro s t h
    obtain ⟨u, hu, hreport⟩ := stepWith_tcycles hP h
    exact ⟨u, hu, hcosts _ _ u hu, hreport⟩
  have hdefault : rule Params.default exec step (fun n => n ∈ [4, 8, 12, 16, 24]) := by
    rw [exec_eq_default, step_eq_default]
    exact hwith Params.default rfl _ fun _ _ _ => execForm_default_tcycles
  refine ⟨hdefault, fun s t h => ?_, fun P hP => hwith P hP (fun _ => True) fun _ _ _ _ => trivial,
    fun P Q f s t hPQ h => execForm_congr hPQ h⟩
  obtain ⟨u, -, hcost, hdispatch, hplain⟩ := hdefault s t h
  have hbounds : 4 ≤ u.tcycles ∧ u.tcycles ≤ 24 := by
    simp only [List.mem_cons, List.not_mem_nil, or_false] at hcost
    omega
  obtain htotal | htotal := (em _).imp hdispatch hplain
  · omega
  · omega

end Sys2Proof.Machine
end
